-- ==== Sys2Proof/Word.lean ====
section
/-! DEFINITION. The word types of the core and the two operand widths (R4 of 00_scope.md). -/

namespace Sys2Proof

/-- A byte: 8 bits (R4). -/
abbrev Byte := BitVec 8

/-- A word: 16 bits, the width of every register (R4). -/
abbrev Word := BitVec 16

/-- A 20-bit physical address, 0 to 0xFFFFF (R4, R62). Addition on it wraps modulo 1 MiB. -/
abbrev PAddr := BitVec 20

/-- The two operand widths (R4, R6): `byte` is w = 0, `word` is w = 1. -/
inductive Width where
  | byte
  | word
  deriving DecidableEq, Repr

/-- `N` of the rules: 8 when w = 0, 16 when w = 1 (R6). -/
abbrev Width.bits : Width → Nat
  | .byte => 8
  | .word => 16

/-- `n = 1 + w` of the rules: the width in bytes (R340). -/
def Width.bytes : Width → Nat
  | .byte => 1
  | .word => 2

/-- Bits 7:0 of a word (R6, R20). -/
def loByte (v : Word) : Byte := v.extractLsb' 0 8

/-- Bits 15:8 of a word (R6, R20). -/
def hiByte (v : Word) : Byte := v.extractLsb' 8 8

/-- `hi ++ lo`, the high part first (R6). -/
def mkWord (hi lo : Byte) : Word := hi ++ lo

/-- `sext_16` of a byte (R8). -/
def sext16 (v : Byte) : Word := v.signExtend 16

/-- `zext_16` of a byte (R8). -/
def zext16 (v : Byte) : Word := v.setWidth 16

end Sys2Proof
end

