-- ==== Sys2Proof/Syntax.lean ====
section
/-! DEFINITION. The syntax of the core's instructions: one constructor of `Instr` per row of
spec/opcode_table.json, in the table's order. Operand types follow R22, R28, R101, R104 and R106 to R112. -/

namespace Sys2Proof

/-- The `d` bit (R104): `toRM` is d = 0, the r/m operand is the destination; `toReg` is d = 1. -/
inductive Dir where
  | toRM
  | toReg
  deriving DecidableEq, Repr

/-- The `v` bit of D0 to D3 (R104): `one` is v = 0, the count is 1; `cl` is v = 1, the count is CL. -/
inductive Count where
  | one
  | cl
  deriving DecidableEq, Repr

/-- A 3-bit register number (R22). In the word table r0 to r7 are AX CX DX BX SP BP SI DI, in the byte table
AL CL DL BL AH CH DH BH. -/
inductive RegNum where
  | r0
  | r1
  | r2
  | r3
  | r4
  | r5
  | r6
  | r7
  deriving DecidableEq, Repr

/-- A segment register: ES = 0, CS = 1, SS = 2, DS = 3 (R28). -/
inductive SReg where
  | es
  | cs
  | ss
  | ds
  deriving DecidableEq, Repr

/-- The eight base/index expressions in rm order 000 to 111 (R109). -/
inductive Base where
  | bxsi
  | bxdi
  | bpsi
  | bpdi
  | si
  | di
  | bp
  | bx
  deriving DecidableEq, Repr

/-- The displacement after the ModRM byte: none (mod = 00), one byte (mod = 01), two bytes (mod = 10) (R112). -/
inductive Disp where
  | none
  | d8 (d : Byte)
  | d16 (d : Word)
  deriving DecidableEq, Repr

/-- The register-or-memory operand a ModRM byte selects (R108 to R112): a register (mod = 11), the direct address
of mod = 00 and rm = 110, or a base/index expression with its displacement. -/
inductive RM where
  | reg (r : RegNum)
  | direct (a : Word)
  | mem (b : Base) (d : Disp)
  deriving DecidableEq, Repr

/-- The seven prefix bytes (R101). -/
inductive Prefix where
  | seg (r : SReg)
  | lock
  | repne
  | rep
  deriving DecidableEq, Repr

/-- The instruction class of the decoder's output: the six families (R122). -/
inductive InstrClass where
  /-- 40_data_transfer.md, R200 to R224 -/
  | dataTransfer
  /-- 41_arithmetic.md, R250 to R270 -/
  | arithmetic
  /-- 42_logic_shift.md, R300 to R313; TEST is one (90_conflicts.md C1) -/
  | logic
  /-- 43_string.md, R340 to R348 -/
  | string
  /-- 44_control_transfer.md, R360 to R388 -/
  | controlTransfer
  /-- 45_processor_control.md, R410 to R421; ESC is one (90_conflicts.md C2) -/
  | processorControl
  deriving DecidableEq, Repr

/-- The instructions. A constructor for a prefix row holds the whole instruction that follows the prefix byte
(format PREFIX of R123); the outermost constructor is the byte at the lowest address. -/
inductive Instr where
  /-- 00 to 03: ADD r/m, reg and ADD reg, r/m (R252, R250). -/
  | addRmReg (d : Dir) (w : Width) (reg : RegNum) (rm : RM)
  /-- 04: ADD AL, imm8 (R252). -/
  | addAl (imm : Byte)
  /-- 05: ADD AX, imm16 (R252). -/
  | addAx (imm : Word)
  /-- 80 /0: ADD r/m8, imm8 (R252). -/
  | addRm8Imm8 (rm : RM) (imm : Byte)
  /-- 81 /0: ADD r/m16, imm16 (R252). -/
  | addRm16Imm16 (rm : RM) (imm : Word)
  /-- 82 /0: ADD r/m8, imm8, the same as 80 (R252, R125). -/
  | addRm8Imm8Alt (rm : RM) (imm : Byte)
  /-- 83 /0: ADD r/m16, sign-extended imm8 (R252). -/
  | addRm16Imm8 (rm : RM) (imm : Byte)
  /-- 08 to 0B: OR r/m, reg and OR reg, r/m (R302, R250). -/
  | orRmReg (d : Dir) (w : Width) (reg : RegNum) (rm : RM)
  /-- 0C: OR AL, imm8 (R302). -/
  | orAl (imm : Byte)
  /-- 0D: OR AX, imm16 (R302). -/
  | orAx (imm : Word)
  /-- 80 /1: OR r/m8, imm8 (R302). -/
  | orRm8Imm8 (rm : RM) (imm : Byte)
  /-- 81 /1: OR r/m16, imm16 (R302). -/
  | orRm16Imm16 (rm : RM) (imm : Word)
  /-- 82 /1: OR r/m8, imm8, the same as 80 (R302, R125). -/
  | orRm8Imm8Alt (rm : RM) (imm : Byte)
  /-- 83 /1: OR r/m16, sign-extended imm8 (R302). -/
  | orRm16Imm8 (rm : RM) (imm : Byte)
  /-- 10 to 13: ADC r/m, reg and ADC reg, r/m (R253, R250). -/
  | adcRmReg (d : Dir) (w : Width) (reg : RegNum) (rm : RM)
  /-- 14: ADC AL, imm8 (R253). -/
  | adcAl (imm : Byte)
  /-- 15: ADC AX, imm16 (R253). -/
  | adcAx (imm : Word)
  /-- 80 /2: ADC r/m8, imm8 (R253). -/
  | adcRm8Imm8 (rm : RM) (imm : Byte)
  /-- 81 /2: ADC r/m16, imm16 (R253). -/
  | adcRm16Imm16 (rm : RM) (imm : Word)
  /-- 82 /2: ADC r/m8, imm8, the same as 80 (R253, R125). -/
  | adcRm8Imm8Alt (rm : RM) (imm : Byte)
  /-- 83 /2: ADC r/m16, sign-extended imm8 (R253). -/
  | adcRm16Imm8 (rm : RM) (imm : Byte)
  /-- 18 to 1B: SBB r/m, reg and SBB reg, r/m (R255, R250). -/
  | sbbRmReg (d : Dir) (w : Width) (reg : RegNum) (rm : RM)
  /-- 1C: SBB AL, imm8 (R255). -/
  | sbbAl (imm : Byte)
  /-- 1D: SBB AX, imm16 (R255). -/
  | sbbAx (imm : Word)
  /-- 80 /3: SBB r/m8, imm8 (R255). -/
  | sbbRm8Imm8 (rm : RM) (imm : Byte)
  /-- 81 /3: SBB r/m16, imm16 (R255). -/
  | sbbRm16Imm16 (rm : RM) (imm : Word)
  /-- 82 /3: SBB r/m8, imm8, the same as 80 (R255, R125). -/
  | sbbRm8Imm8Alt (rm : RM) (imm : Byte)
  /-- 83 /3: SBB r/m16, sign-extended imm8 (R255). -/
  | sbbRm16Imm8 (rm : RM) (imm : Byte)
  /-- 20 to 23: AND r/m, reg and AND reg, r/m (R301, R250). -/
  | andRmReg (d : Dir) (w : Width) (reg : RegNum) (rm : RM)
  /-- 24: AND AL, imm8 (R301). -/
  | andAl (imm : Byte)
  /-- 25: AND AX, imm16 (R301). -/
  | andAx (imm : Word)
  /-- 80 /4: AND r/m8, imm8 (R301). -/
  | andRm8Imm8 (rm : RM) (imm : Byte)
  /-- 81 /4: AND r/m16, imm16 (R301). -/
  | andRm16Imm16 (rm : RM) (imm : Word)
  /-- 82 /4: AND r/m8, imm8, the same as 80 (R301, R125). -/
  | andRm8Imm8Alt (rm : RM) (imm : Byte)
  /-- 83 /4: AND r/m16, sign-extended imm8 (R301). -/
  | andRm16Imm8 (rm : RM) (imm : Byte)
  /-- 28 to 2B: SUB r/m, reg and SUB reg, r/m (R254, R250). -/
  | subRmReg (d : Dir) (w : Width) (reg : RegNum) (rm : RM)
  /-- 2C: SUB AL, imm8 (R254). -/
  | subAl (imm : Byte)
  /-- 2D: SUB AX, imm16 (R254). -/
  | subAx (imm : Word)
  /-- 80 /5: SUB r/m8, imm8 (R254). -/
  | subRm8Imm8 (rm : RM) (imm : Byte)
  /-- 81 /5: SUB r/m16, imm16 (R254). -/
  | subRm16Imm16 (rm : RM) (imm : Word)
  /-- 82 /5: SUB r/m8, imm8, the same as 80 (R254, R125). -/
  | subRm8Imm8Alt (rm : RM) (imm : Byte)
  /-- 83 /5: SUB r/m16, sign-extended imm8 (R254). -/
  | subRm16Imm8 (rm : RM) (imm : Byte)
  /-- 30 to 33: XOR r/m, reg and XOR reg, r/m (R303, R250). -/
  | xorRmReg (d : Dir) (w : Width) (reg : RegNum) (rm : RM)
  /-- 34: XOR AL, imm8 (R303). -/
  | xorAl (imm : Byte)
  /-- 35: XOR AX, imm16 (R303). -/
  | xorAx (imm : Word)
  /-- 80 /6: XOR r/m8, imm8 (R303). -/
  | xorRm8Imm8 (rm : RM) (imm : Byte)
  /-- 81 /6: XOR r/m16, imm16 (R303). -/
  | xorRm16Imm16 (rm : RM) (imm : Word)
  /-- 82 /6: XOR r/m8, imm8, the same as 80 (R303, R125). -/
  | xorRm8Imm8Alt (rm : RM) (imm : Byte)
  /-- 83 /6: XOR r/m16, sign-extended imm8 (R303). -/
  | xorRm16Imm8 (rm : RM) (imm : Byte)
  /-- 38 to 3B: CMP r/m, reg and CMP reg, r/m (R256, R250). -/
  | cmpRmReg (d : Dir) (w : Width) (reg : RegNum) (rm : RM)
  /-- 3C: CMP AL, imm8 (R256). -/
  | cmpAl (imm : Byte)
  /-- 3D: CMP AX, imm16 (R256). -/
  | cmpAx (imm : Word)
  /-- 80 /7: CMP r/m8, imm8 (R256). -/
  | cmpRm8Imm8 (rm : RM) (imm : Byte)
  /-- 81 /7: CMP r/m16, imm16 (R256). -/
  | cmpRm16Imm16 (rm : RM) (imm : Word)
  /-- 82 /7: CMP r/m8, imm8, the same as 80 (R256, R125). -/
  | cmpRm8Imm8Alt (rm : RM) (imm : Byte)
  /-- 83 /7: CMP r/m16, sign-extended imm8 (R256). -/
  | cmpRm16Imm8 (rm : RM) (imm : Byte)
  /-- 06: PUSH ES (R207). -/
  | pushEs
  /-- 0E: PUSH CS (R207). -/
  | pushCs
  /-- 16: PUSH SS (R207). -/
  | pushSs
  /-- 1E: PUSH DS (R207). -/
  | pushDs
  /-- 07: POP ES (R208). -/
  | popEs
  /-- 17: POP SS (R208). -/
  | popSs
  /-- 1F: POP DS (R208). -/
  | popDs
  /-- 26: the ES: override in front of a whole instruction (R101, R117). -/
  | segEs (rest : Instr)
  /-- 2E: the CS: override in front of a whole instruction (R101, R117). -/
  | segCs (rest : Instr)
  /-- 36: the SS: override in front of a whole instruction (R101, R117). -/
  | segSs (rest : Instr)
  /-- 3E: the DS: override in front of a whole instruction (R101, R117). -/
  | segDs (rest : Instr)
  /-- 27: DAA (R265). -/
  | daa
  /-- 2F: DAS (R267). -/
  | das
  /-- 37: AAA (R264). -/
  | aaa
  /-- 3F: AAS (R266). -/
  | aas
  /-- 40+r: INC r16 (R257). -/
  | incReg (r : RegNum)
  /-- 48+r: DEC r16 (R258). -/
  | decReg (r : RegNum)
  /-- 50+r: PUSH r16 (R207). -/
  | pushReg (r : RegNum)
  /-- 58+r: POP r16 (R208). -/
  | popReg (r : RegNum)
  /-- 70: JO rel8 (R372). -/
  | jo (rel : Byte)
  /-- 71: JNO rel8 (R372). -/
  | jno (rel : Byte)
  /-- 72: JB rel8 (R372). -/
  | jb (rel : Byte)
  /-- 73: JNB rel8 (R372). -/
  | jnb (rel : Byte)
  /-- 74: JZ rel8 (R372). -/
  | jz (rel : Byte)
  /-- 75: JNZ rel8 (R372). -/
  | jnz (rel : Byte)
  /-- 76: JBE rel8 (R372). -/
  | jbe (rel : Byte)
  /-- 77: JNBE rel8 (R372). -/
  | jnbe (rel : Byte)
  /-- 78: JS rel8 (R372). -/
  | js (rel : Byte)
  /-- 79: JNS rel8 (R372). -/
  | jns (rel : Byte)
  /-- 7A: JP rel8 (R372). -/
  | jp (rel : Byte)
  /-- 7B: JNP rel8 (R372). -/
  | jnp (rel : Byte)
  /-- 7C: JL rel8 (R372). -/
  | jl (rel : Byte)
  /-- 7D: JNL rel8 (R372). -/
  | jnl (rel : Byte)
  /-- 7E: JLE rel8 (R372). -/
  | jle (rel : Byte)
  /-- 7F: JNLE rel8 (R372). -/
  | jnle (rel : Byte)
  /-- 84, 85: TEST r/m, reg (R304). -/
  | testRmReg (w : Width) (reg : RegNum) (rm : RM)
  /-- 86, 87: XCHG reg, r/m (R212). -/
  | xchgRmReg (w : Width) (reg : RegNum) (rm : RM)
  /-- 88 to 8B: MOV r/m, reg and MOV reg, r/m (R200). -/
  | movRmReg (d : Dir) (w : Width) (reg : RegNum) (rm : RM)
  /-- 8C: MOV r/m16, sreg (R205). -/
  | movRmSreg (sr : SReg) (rm : RM)
  /-- 8D: LEA reg16, m; mod = 3 is no encoding (R215, R127). -/
  | lea (reg : RegNum) (rm : RM)
  /-- 8E: MOV sreg, r/m16 (R206). -/
  | movSregRm (sr : SReg) (rm : RM)
  /-- 8F /0: POP r/m16 (R208). -/
  | popRm (rm : RM)
  /-- 90: NOP, which is XCHG AX, AX (R421). -/
  | nop
  /-- 91: XCHG AX, CX (R211). -/
  | xchgAxCx
  /-- 92: XCHG AX, DX (R211). -/
  | xchgAxDx
  /-- 93: XCHG AX, BX (R211). -/
  | xchgAxBx
  /-- 94: XCHG AX, SP (R211). -/
  | xchgAxSp
  /-- 95: XCHG AX, BP (R211). -/
  | xchgAxBp
  /-- 96: XCHG AX, SI (R211). -/
  | xchgAxSi
  /-- 97: XCHG AX, DI (R211). -/
  | xchgAxDi
  /-- 98: CBW (R222). -/
  | cbw
  /-- 99: CWD (R223). -/
  | cwd
  /-- 9A: CALL ptr16:16 (R362). -/
  | callFar (off : Word) (seg : Word)
  /-- 9B: WAIT (R418). -/
  | wait
  /-- 9C: PUSHF (R218). -/
  | pushf
  /-- 9D: POPF (R219). -/
  | popf
  /-- 9E: SAHF (R217). -/
  | sahf
  /-- 9F: LAHF (R216). -/
  | lahf
  /-- A0, A1: MOV AL/AX, [moffs] (R203). -/
  | movAccMoffs (w : Width) (off : Word)
  /-- A2, A3: MOV [moffs], AL/AX (R204). -/
  | movMoffsAcc (w : Width) (off : Word)
  /-- A4, A5: MOVSB, MOVSW (R343). -/
  | movs (w : Width)
  /-- A6, A7: CMPSB, CMPSW (R345). -/
  | cmps (w : Width)
  /-- A8: TEST AL, imm8 (R304). -/
  | testAl (imm : Byte)
  /-- A9: TEST AX, imm16 (R304). -/
  | testAx (imm : Word)
  /-- AA, AB: STOSB, STOSW (R347). -/
  | stos (w : Width)
  /-- AC, AD: LODSB, LODSW (R344). -/
  | lods (w : Width)
  /-- AE, AF: SCASB, SCASW (R346). -/
  | scas (w : Width)
  /-- B0+r: MOV r8, imm8 (R201). -/
  | movReg8Imm (r : RegNum) (imm : Byte)
  /-- B8+r: MOV r16, imm16 (R201). -/
  | movReg16Imm (r : RegNum) (imm : Word)
  /-- C2: RET imm16 (R367). -/
  | retImm (imm : Word)
  /-- C3: RET (R366). -/
  | ret
  /-- C4: LES reg16, m16:16; mod = 3 is no encoding (R221, R127). -/
  | les (reg : RegNum) (rm : RM)
  /-- C5: LDS reg16, m16:16; mod = 3 is no encoding (R220, R127). -/
  | lds (reg : RegNum) (rm : RM)
  /-- C6 /0: MOV r/m8, imm8 (R202). -/
  | movRm8Imm8 (rm : RM) (imm : Byte)
  /-- C7 /0: MOV r/m16, imm16 (R202). -/
  | movRm16Imm16 (rm : RM) (imm : Word)
  /-- CA: RETF imm16 (R369). -/
  | retfImm (imm : Word)
  /-- CB: RETF (R368). -/
  | retf
  /-- CC: INT3 (R385). -/
  | int3
  /-- CD: INT imm8 (R384). -/
  | intImm (imm : Byte)
  /-- CE: INTO (R386). -/
  | into
  /-- CF: IRET (R388). -/
  | iret
  /-- D0 to D3 /0: ROL r/m by 1 or by CL (R310, R306). -/
  | rolRm (v : Count) (w : Width) (rm : RM)
  /-- D0 to D3 /1: ROR r/m by 1 or by CL (R311, R306). -/
  | rorRm (v : Count) (w : Width) (rm : RM)
  /-- D0 to D3 /2: RCL r/m by 1 or by CL (R312, R306). -/
  | rclRm (v : Count) (w : Width) (rm : RM)
  /-- D0 to D3 /3: RCR r/m by 1 or by CL (R313, R306). -/
  | rcrRm (v : Count) (w : Width) (rm : RM)
  /-- D0 to D3 /4: SHL r/m by 1 or by CL (R307, R306). -/
  | shlRm (v : Count) (w : Width) (rm : RM)
  /-- D0 to D3 /5: SHR r/m by 1 or by CL (R308, R306). -/
  | shrRm (v : Count) (w : Width) (rm : RM)
  /-- D0 to D3 /7: SAR r/m by 1 or by CL (R309, R306). -/
  | sarRm (v : Count) (w : Width) (rm : RM)
  /-- D4: AAM imm8 (R268). -/
  | aam (imm : Byte)
  /-- D5: AAD imm8 (R269). -/
  | aad (imm : Byte)
  /-- D7: XLAT (R224). -/
  | xlat
  /-- D8 to DF: ESC, opcode bits 2:0 and the ModRM reg field ignored (R420). -/
  | esc (hi : RegNum) (lo : RegNum) (rm : RM)
  /-- E0: LOOPNZ rel8 (R376). -/
  | loopnz (rel : Byte)
  /-- E1: LOOPZ rel8 (R375). -/
  | loopz (rel : Byte)
  /-- E2: LOOP rel8 (R374). -/
  | loop (rel : Byte)
  /-- E3: JCXZ rel8 (R377). -/
  | jcxz (rel : Byte)
  /-- E4, E5: IN AL/AX, imm8 (R213). -/
  | inImm (w : Width) (port : Byte)
  /-- E6, E7: OUT imm8, AL/AX (R214). -/
  | outImm (w : Width) (port : Byte)
  /-- E8: CALL rel16 (R360). -/
  | callRel (rel : Word)
  /-- E9: JMP rel16 (R364). -/
  | jmpRel (rel : Word)
  /-- EA: JMP ptr16:16 (R365). -/
  | jmpFar (off : Word) (seg : Word)
  /-- EB: JMP rel8 (R363). -/
  | jmpShort (rel : Byte)
  /-- EC, ED: IN AL/AX, DX (R213). -/
  | inDx (w : Width)
  /-- EE, EF: OUT DX, AL/AX (R214). -/
  | outDx (w : Width)
  /-- F0: the LOCK prefix in front of a whole instruction (R419). -/
  | lock (rest : Instr)
  /-- F2: the REPNE prefix in front of a whole instruction (R348). -/
  | repne (rest : Instr)
  /-- F3: the REP / REPE prefix in front of a whole instruction (R348). -/
  | rep (rest : Instr)
  /-- F4: HLT (R417). -/
  | hlt
  /-- F5: CMC (R412). -/
  | cmc
  /-- F6 /0: TEST r/m8, imm8 (R304). -/
  | testRm8Imm8 (rm : RM) (imm : Byte)
  /-- F7 /0: TEST r/m16, imm16 (R304). -/
  | testRm16Imm16 (rm : RM) (imm : Word)
  /-- F6, F7 /2: NOT r/m (R305). -/
  | notRm (w : Width) (rm : RM)
  /-- F6, F7 /3: NEG r/m (R259). -/
  | negRm (w : Width) (rm : RM)
  /-- F6, F7 /4: MUL r/m (R260). -/
  | mulRm (w : Width) (rm : RM)
  /-- F6, F7 /5: IMUL r/m (R261). -/
  | imulRm (w : Width) (rm : RM)
  /-- F6, F7 /6: DIV r/m (R262). -/
  | divRm (w : Width) (rm : RM)
  /-- F6, F7 /7: IDIV r/m (R263). -/
  | idivRm (w : Width) (rm : RM)
  /-- F8: CLC (R410). -/
  | clc
  /-- F9: STC (R411). -/
  | stc
  /-- FA: CLI (R415). -/
  | cli
  /-- FB: STI (R416). -/
  | sti
  /-- FC: CLD (R413). -/
  | cld
  /-- FD: STD (R414). -/
  | std
  /-- FE, FF /0: INC r/m (R257). -/
  | incRm (w : Width) (rm : RM)
  /-- FE, FF /1: DEC r/m (R258). -/
  | decRm (w : Width) (rm : RM)
  /-- FF /2: CALL r/m16 (R361). -/
  | callRm (rm : RM)
  /-- FF /3: CALL m16:16; mod = 3 is no encoding (R378, R127). -/
  | callFarRm (rm : RM)
  /-- FF /4: JMP r/m16 (R379). -/
  | jmpRm (rm : RM)
  /-- FF /5: JMP m16:16; mod = 3 is no encoding (R380, R127). -/
  | jmpFarRm (rm : RM)
  /-- FF /6: PUSH r/m16 (R207). -/
  | pushRm (rm : RM)
  deriving DecidableEq, Repr

/-- A prefix byte in front of an instruction (R101). -/
def Instr.withPrefix : Prefix → Instr → Instr
  | .seg .es, i => .segEs i
  | .seg .cs, i => .segCs i
  | .seg .ss, i => .segSs i
  | .seg .ds, i => .segDs i
  | .lock, i => .lock i
  | .repne, i => .repne i
  | .rep, i => .rep i

/-- A run of prefix bytes, in memory order, in front of an instruction (R100). -/
def Instr.withPrefixes (ps : List Prefix) (i : Instr) : Instr := ps.foldr Instr.withPrefix i

end Sys2Proof
end

