-- ==== Sys2Proof/WellFormed.lean ====
section
/-! DEFINITION. Which terms of `Instr` an encoding exists for: the constraints the types of the operands leave open.
A decoded instruction meets `Instr.operandsOk`; the bound on prefixes is R103's. -/

namespace Sys2Proof

/-- BP without a displacement has no encoding: mod = 00 with rm = 110 is the direct address (R109). -/
def RM.encodable : RM → Bool
  | .mem .bp .none => false
  | _ => true

/-- The operand is a memory reference (mod ≠ 11, R108). -/
def RM.isMem : RM → Bool
  | .reg _ => false
  | .direct _ => true
  | .mem _ _ => true

/-- The ModRM operand of an instruction that has one. -/
def Instr.rm? : Instr → Option RM
  | .addRmReg _ _ _ rm | .addRm8Imm8 rm _ | .addRm16Imm16 rm _ | .addRm8Imm8Alt rm _ | .addRm16Imm8 rm _
  | .orRmReg _ _ _ rm | .orRm8Imm8 rm _ | .orRm16Imm16 rm _ | .orRm8Imm8Alt rm _ | .orRm16Imm8 rm _
  | .adcRmReg _ _ _ rm | .adcRm8Imm8 rm _ | .adcRm16Imm16 rm _ | .adcRm8Imm8Alt rm _ | .adcRm16Imm8 rm _
  | .sbbRmReg _ _ _ rm | .sbbRm8Imm8 rm _ | .sbbRm16Imm16 rm _ | .sbbRm8Imm8Alt rm _ | .sbbRm16Imm8 rm _
  | .andRmReg _ _ _ rm | .andRm8Imm8 rm _ | .andRm16Imm16 rm _ | .andRm8Imm8Alt rm _ | .andRm16Imm8 rm _
  | .subRmReg _ _ _ rm | .subRm8Imm8 rm _ | .subRm16Imm16 rm _ | .subRm8Imm8Alt rm _ | .subRm16Imm8 rm _
  | .xorRmReg _ _ _ rm | .xorRm8Imm8 rm _ | .xorRm16Imm16 rm _ | .xorRm8Imm8Alt rm _ | .xorRm16Imm8 rm _
  | .cmpRmReg _ _ _ rm | .cmpRm8Imm8 rm _ | .cmpRm16Imm16 rm _ | .cmpRm8Imm8Alt rm _ | .cmpRm16Imm8 rm _
  | .testRmReg _ _ rm | .xchgRmReg _ _ rm | .movRmReg _ _ _ rm | .movRmSreg _ rm | .lea _ rm | .movSregRm _ rm
  | .popRm rm | .les _ rm | .lds _ rm | .movRm8Imm8 rm _ | .movRm16Imm16 rm _ | .rolRm _ _ rm | .rorRm _ _ rm
  | .rclRm _ _ rm | .rcrRm _ _ rm | .shlRm _ _ rm | .shrRm _ _ rm | .sarRm _ _ rm | .esc _ _ rm
  | .testRm8Imm8 rm _ | .testRm16Imm16 rm _ | .notRm _ rm | .negRm _ rm | .mulRm _ rm | .imulRm _ rm | .divRm _ rm
  | .idivRm _ rm | .incRm _ rm | .decRm _ rm | .callRm rm | .callFarRm rm | .jmpRm rm | .jmpFarRm rm | .pushRm rm => some rm
  | .segEs rest | .segCs rest | .segSs rest | .segDs rest | .lock rest | .repne rest | .rep rest => rest.rm?
  | .addAl _ | .addAx _ | .orAl _ | .orAx _ | .adcAl _ | .adcAx _ | .sbbAl _ | .sbbAx _ | .andAl _ | .andAx _
  | .subAl _ | .subAx _ | .xorAl _ | .xorAx _ | .cmpAl _ | .cmpAx _ | .pushEs | .pushCs | .pushSs | .pushDs
  | .popEs | .popSs | .popDs | .daa | .das | .aaa | .aas | .incReg _ | .decReg _ | .pushReg _ | .popReg _ | .jo _
  | .jno _ | .jb _ | .jnb _ | .jz _ | .jnz _ | .jbe _ | .jnbe _ | .js _ | .jns _ | .jp _ | .jnp _ | .jl _ | .jnl _
  | .jle _ | .jnle _ | .nop | .xchgAxCx | .xchgAxDx | .xchgAxBx | .xchgAxSp | .xchgAxBp | .xchgAxSi | .xchgAxDi
  | .cbw | .cwd | .callFar _ _ | .wait | .pushf | .popf | .sahf | .lahf | .movAccMoffs _ _ | .movMoffsAcc _ _
  | .movs _ | .cmps _ | .testAl _ | .testAx _ | .stos _ | .lods _ | .scas _ | .movReg8Imm _ _ | .movReg16Imm _ _
  | .retImm _ | .ret | .retfImm _ | .retf | .int3 | .intImm _ | .into | .iret | .aam _ | .aad _ | .xlat
  | .loopnz _ | .loopz _ | .loop _ | .jcxz _ | .inImm _ _ | .outImm _ _ | .callRel _ | .jmpRel _ | .jmpFar _ _
  | .jmpShort _ | .inDx _ | .outDx _ | .hlt | .cmc | .clc | .stc | .cli | .sti | .cld | .std => none

/-- The five rows whose operand must be a memory reference: "constraint": "mod != 3" (R127, R132). -/
def Instr.memoryOnly : Instr → Bool
  | .lea _ _ | .les _ _ | .lds _ _ | .callFarRm _ | .jmpFarRm _ => true
  | .segEs rest | .segCs rest | .segSs rest | .segDs rest | .lock rest | .repne rest | .rep rest => rest.memoryOnly
  | _ => false

/-- The number of prefix bytes in front of the opcode (R121). -/
def Instr.prefixCount : Instr → Nat
  | .segEs rest | .segCs rest | .segSs rest | .segDs rest | .lock rest | .repne rest | .rep rest => rest.prefixCount + 1
  | _ => 0

/-- The instruction without its prefixes: the opcode and what follows it. -/
def Instr.body : Instr → Instr
  | .segEs rest | .segCs rest | .segSs rest | .segDs rest | .lock rest | .repne rest | .rep rest => rest.body
  | i => i

/-- The prefix bytes of an instruction, in memory order (R100). -/
def Instr.prefixes : Instr → List Prefix
  | .segEs rest => .seg .es :: rest.prefixes
  | .segCs rest => .seg .cs :: rest.prefixes
  | .segSs rest => .seg .ss :: rest.prefixes
  | .segDs rest => .seg .ds :: rest.prefixes
  | .lock rest => .lock :: rest.prefixes
  | .repne rest => .repne :: rest.prefixes
  | .rep rest => .rep :: rest.prefixes
  | _ => []

/-- The operands are ones the encoding has (R109, R127). -/
def Instr.operandsOk (i : Instr) : Bool :=
  match i.rm? with
  | none => true
  | some rm => rm.encodable && (!i.memoryOnly || rm.isMem)

/-- The run of prefixes leaves room for an opcode in the 2^20 bytes of memory (R103). -/
def Instr.prefixesOk (i : Instr) : Bool := decide (i.prefixCount < 0x100000)

/-- The instruction has an encoding that a step can fetch. -/
def Instr.wf (i : Instr) : Bool := i.operandsOk && i.prefixesOk

end Sys2Proof
end

