-- ==== Sys2Proof/Decode.lean ====
section
/-! DEFINITION. The instruction decoder (R100 to R129 of 30_encoding.md), total on any list of bytes and rejecting by
name, and after it the encoder, written from the same tables of the spec. -/

namespace Sys2Proof

/-! ## Fields -/

/-- The register number of a 3-bit field (R22). -/
def RegNum.ofBits (b : BitVec 3) : RegNum :=
  match b.toNat with
  | 0 => .r0
  | 1 => .r1
  | 2 => .r2
  | 3 => .r3
  | 4 => .r4
  | 5 => .r5
  | 6 => .r6
  | _ => .r7

/-- The 3-bit field of a register number (R22). -/
def RegNum.bits : RegNum → BitVec 3
  | .r0 => 0
  | .r1 => 1
  | .r2 => 2
  | .r3 => 3
  | .r4 => 4
  | .r5 => 5
  | .r6 => 6
  | .r7 => 7

/-- The segment register of a 2-bit field (R28). -/
def SReg.ofBits (b : BitVec 2) : SReg :=
  match b.toNat with
  | 0 => .es
  | 1 => .cs
  | 2 => .ss
  | _ => .ds

/-- The ModRM reg field that names a segment register (R28, R107). -/
def SReg.num : SReg → RegNum
  | .es => .r0
  | .cs => .r1
  | .ss => .r2
  | .ds => .r3

/-- The base/index expression of an rm field (R109). -/
def Base.ofBits (b : BitVec 3) : Base :=
  match b.toNat with
  | 0 => .bxsi
  | 1 => .bxdi
  | 2 => .bpsi
  | 3 => .bpdi
  | 4 => .si
  | 5 => .di
  | 6 => .bp
  | _ => .bx

/-- The rm field of a base/index expression (R109). -/
def Base.bits : Base → BitVec 3
  | .bxsi => 0
  | .bxdi => 1
  | .bpsi => 2
  | .bpdi => 3
  | .si => 4
  | .di => 5
  | .bp => 6
  | .bx => 7

/-- `w`, opcode bit 0 (R104). -/
def widthOf (op : Byte) : Width := if op.getLsbD 0 then .word else .byte

/-- `d`, opcode bit 1 (R104). -/
def dirOf (op : Byte) : Dir := if op.getLsbD 1 then .toReg else .toRM

/-- `v`, opcode bit 1 of D0 to D3 (R104). -/
def countOf (op : Byte) : Count := if op.getLsbD 1 then .cl else .one

/-- The register number in opcode bits 2:0 (R105). -/
def regOf (op : Byte) : RegNum := RegNum.ofBits (op.extractLsb' 0 3)

/-! ## Decoding -/

/-- Why a list of bytes holds no instruction. `unknownOpcode` and `unresolvableModRM` are the two causes of a
DecodeFault (R126, R127); `truncated` says that the list ended first, which memory never does unless it holds
prefix bytes only (R103). -/
inductive DecodeError where
  | truncated
  | unknownOpcode (op : Byte)
  | unresolvableModRM (op modrm : Byte)
  deriving DecidableEq, Repr

/-- An instruction and the bytes after it, or the reason there is none. -/
abbrev DecodeResult := Except DecodeError (Instr × List Byte)

/-- Take one byte. -/
def withByte (bs : List Byte) (k : Byte → List Byte → DecodeResult) : DecodeResult :=
  match bs with
  | b :: r => k b r
  | [] => .error .truncated

/-- Take a word, low byte then high byte (R67, R118, R119). -/
def withWord (bs : List Byte) (k : Word → List Byte → DecodeResult) : DecodeResult :=
  match bs with
  | lo :: hi :: r => k (mkWord hi lo) r
  | _ => .error .truncated

/-- The ModRM combinations the decoder cannot resolve: the list of R127. -/
def modRMIllegal (op : Byte) (mod : BitVec 2) (reg : BitVec 3) : Bool :=
  match op.toNat with
  | 0xD0 | 0xD1 | 0xD2 | 0xD3 => reg == 6
  | 0xF6 | 0xF7 => reg == 1
  | 0xFE => decide (2 ≤ reg.toNat)
  | 0xFF => reg == 7 || ((reg == 3 || reg == 5) && mod == 3)
  | 0x8F | 0xC6 | 0xC7 => reg != 0
  | 0x8C | 0x8E => decide (4 ≤ reg.toNat)
  | 0x8D | 0xC4 | 0xC5 => mod == 3
  | _ => false

/-- A ModRM byte and the operand it selects with its displacement (R106). -/
structure ModRM where
  byte : Byte
  rm : RM
  deriving DecidableEq, Repr

/-- The reg field of a ModRM byte as a register number (R106, R107). -/
def ModRM.reg (x : ModRM) : RegNum := RegNum.ofBits (x.byte.extractLsb' 3 3)

/-- The segment register in ModRM bits 4:3 (8C and 8E, R107). -/
def ModRM.sreg (x : ModRM) : SReg := SReg.ofBits (x.byte.extractLsb' 3 2)

/-- The operand that mod and rm select, and its displacement bytes (R108 to R112). -/
def withDisp (mod : BitVec 2) (rm : BitVec 3) (bs : List Byte) (k : RM → List Byte → DecodeResult) : DecodeResult :=
  match mod.toNat with
  | 0 =>
    if rm == 6 then withWord bs fun a r => k (.direct a) r
    else k (.mem (Base.ofBits rm) .none) bs
  | 1 => withByte bs fun d r => k (.mem (Base.ofBits rm) (.d8 d)) r
  | 2 => withWord bs fun d r => k (.mem (Base.ofBits rm) (.d16 d)) r
  | _ => k (.reg (RegNum.ofBits rm)) bs

/-- Read the ModRM byte, refuse what R127 lists before any displacement is read, then the displacement (R129). -/
def withModRM (op : Byte) (bs : List Byte) (k : ModRM → List Byte → DecodeResult) : DecodeResult :=
  match bs with
  | [] => .error .truncated
  | m :: r =>
    if modRMIllegal op (m.extractLsb' 6 2) (m.extractLsb' 3 3) then .error (.unresolvableModRM op m)
    else withDisp (m.extractLsb' 6 2) (m.extractLsb' 0 3) r fun rm r => k ⟨m, rm⟩ r

/-- Group 1, opcode 80: the ModRM reg field selects the instruction (R125). -/
def group1Rm8Imm8 (reg : RegNum) (rm : RM) (imm : Byte) : Instr :=
  match reg with
  | .r0 => .addRm8Imm8 rm imm
  | .r1 => .orRm8Imm8 rm imm
  | .r2 => .adcRm8Imm8 rm imm
  | .r3 => .sbbRm8Imm8 rm imm
  | .r4 => .andRm8Imm8 rm imm
  | .r5 => .subRm8Imm8 rm imm
  | .r6 => .xorRm8Imm8 rm imm
  | .r7 => .cmpRm8Imm8 rm imm

/-- Group 1, opcode 81: the ModRM reg field selects the instruction (R125). -/
def group1Rm16Imm16 (reg : RegNum) (rm : RM) (imm : Word) : Instr :=
  match reg with
  | .r0 => .addRm16Imm16 rm imm
  | .r1 => .orRm16Imm16 rm imm
  | .r2 => .adcRm16Imm16 rm imm
  | .r3 => .sbbRm16Imm16 rm imm
  | .r4 => .andRm16Imm16 rm imm
  | .r5 => .subRm16Imm16 rm imm
  | .r6 => .xorRm16Imm16 rm imm
  | .r7 => .cmpRm16Imm16 rm imm

/-- Group 1, opcode 82: the ModRM reg field selects the instruction (R125). -/
def group1Rm8Imm8Alt (reg : RegNum) (rm : RM) (imm : Byte) : Instr :=
  match reg with
  | .r0 => .addRm8Imm8Alt rm imm
  | .r1 => .orRm8Imm8Alt rm imm
  | .r2 => .adcRm8Imm8Alt rm imm
  | .r3 => .sbbRm8Imm8Alt rm imm
  | .r4 => .andRm8Imm8Alt rm imm
  | .r5 => .subRm8Imm8Alt rm imm
  | .r6 => .xorRm8Imm8Alt rm imm
  | .r7 => .cmpRm8Imm8Alt rm imm

/-- Group 1, opcode 83: the ModRM reg field selects the instruction (R125). -/
def group1Rm16Imm8 (reg : RegNum) (rm : RM) (imm : Byte) : Instr :=
  match reg with
  | .r0 => .addRm16Imm8 rm imm
  | .r1 => .orRm16Imm8 rm imm
  | .r2 => .adcRm16Imm8 rm imm
  | .r3 => .sbbRm16Imm8 rm imm
  | .r4 => .andRm16Imm8 rm imm
  | .r5 => .subRm16Imm8 rm imm
  | .r6 => .xorRm16Imm8 rm imm
  | .r7 => .cmpRm16Imm8 rm imm

/-- Group 2, D0 to D3: shifts and rotates (R125); sub-opcode 6 is refused by R127. -/
def group2 (op : Byte) (x : ModRM) (r : List Byte) : DecodeResult :=
  match x.reg with
  | .r0 => .ok (.rolRm (countOf op) (widthOf op) x.rm, r)
  | .r1 => .ok (.rorRm (countOf op) (widthOf op) x.rm, r)
  | .r2 => .ok (.rclRm (countOf op) (widthOf op) x.rm, r)
  | .r3 => .ok (.rcrRm (countOf op) (widthOf op) x.rm, r)
  | .r4 => .ok (.shlRm (countOf op) (widthOf op) x.rm, r)
  | .r5 => .ok (.shrRm (countOf op) (widthOf op) x.rm, r)
  | .r6 => .error (.unresolvableModRM op x.byte)
  | .r7 => .ok (.sarRm (countOf op) (widthOf op) x.rm, r)

/-- Group 3, F6 and F7 (R125); only sub-opcode 0 has an immediate, sub-opcode 1 is refused by R127. -/
def group3 (op : Byte) (x : ModRM) (r : List Byte) : DecodeResult :=
  match x.reg with
  | .r0 =>
    match widthOf op with
    | .byte => withByte r fun imm r => .ok (.testRm8Imm8 x.rm imm, r)
    | .word => withWord r fun imm r => .ok (.testRm16Imm16 x.rm imm, r)
  | .r1 => .error (.unresolvableModRM op x.byte)
  | .r2 => .ok (.notRm (widthOf op) x.rm, r)
  | .r3 => .ok (.negRm (widthOf op) x.rm, r)
  | .r4 => .ok (.mulRm (widthOf op) x.rm, r)
  | .r5 => .ok (.imulRm (widthOf op) x.rm, r)
  | .r6 => .ok (.divRm (widthOf op) x.rm, r)
  | .r7 => .ok (.idivRm (widthOf op) x.rm, r)

/-- Group 4, FE (R125); sub-opcodes 2 to 7 are refused by R127. -/
def group4 (op : Byte) (x : ModRM) (r : List Byte) : DecodeResult :=
  match x.reg with
  | .r0 => .ok (.incRm .byte x.rm, r)
  | .r1 => .ok (.decRm .byte x.rm, r)
  | .r2 | .r3 | .r4 | .r5 | .r6 | .r7 => .error (.unresolvableModRM op x.byte)

/-- Group 5, FF (R125); sub-opcode 7 is refused by R127. -/
def group5 (op : Byte) (x : ModRM) (r : List Byte) : DecodeResult :=
  match x.reg with
  | .r0 => .ok (.incRm .word x.rm, r)
  | .r1 => .ok (.decRm .word x.rm, r)
  | .r2 => .ok (.callRm x.rm, r)
  | .r3 => .ok (.callFarRm x.rm, r)
  | .r4 => .ok (.jmpRm x.rm, r)
  | .r5 => .ok (.jmpFarRm x.rm, r)
  | .r6 => .ok (.pushRm x.rm, r)
  | .r7 => .error (.unresolvableModRM op x.byte)

/-- The dispatch table by opcode byte (R124), after the prefixes. What it does not list is R126's list (and the
prefix bytes, which `decode` has consumed). -/
def decodeBody (op : Byte) (bs : List Byte) : DecodeResult :=
  match op.toNat with
  | 0x00 | 0x01 | 0x02 | 0x03 =>
    withModRM op bs fun x r => .ok (.addRmReg (dirOf op) (widthOf op) x.reg x.rm, r)
  | 0x04 => withByte bs fun imm r => .ok (.addAl imm, r)
  | 0x05 => withWord bs fun imm r => .ok (.addAx imm, r)
  | 0x06 => .ok (.pushEs, bs)
  | 0x07 => .ok (.popEs, bs)
  | 0x08 | 0x09 | 0x0A | 0x0B => withModRM op bs fun x r => .ok (.orRmReg (dirOf op) (widthOf op) x.reg x.rm, r)
  | 0x0C => withByte bs fun imm r => .ok (.orAl imm, r)
  | 0x0D => withWord bs fun imm r => .ok (.orAx imm, r)
  | 0x0E => .ok (.pushCs, bs)
  | 0x10 | 0x11 | 0x12 | 0x13 =>
    withModRM op bs fun x r => .ok (.adcRmReg (dirOf op) (widthOf op) x.reg x.rm, r)
  | 0x14 => withByte bs fun imm r => .ok (.adcAl imm, r)
  | 0x15 => withWord bs fun imm r => .ok (.adcAx imm, r)
  | 0x16 => .ok (.pushSs, bs)
  | 0x17 => .ok (.popSs, bs)
  | 0x18 | 0x19 | 0x1A | 0x1B =>
    withModRM op bs fun x r => .ok (.sbbRmReg (dirOf op) (widthOf op) x.reg x.rm, r)
  | 0x1C => withByte bs fun imm r => .ok (.sbbAl imm, r)
  | 0x1D => withWord bs fun imm r => .ok (.sbbAx imm, r)
  | 0x1E => .ok (.pushDs, bs)
  | 0x1F => .ok (.popDs, bs)
  | 0x20 | 0x21 | 0x22 | 0x23 =>
    withModRM op bs fun x r => .ok (.andRmReg (dirOf op) (widthOf op) x.reg x.rm, r)
  | 0x24 => withByte bs fun imm r => .ok (.andAl imm, r)
  | 0x25 => withWord bs fun imm r => .ok (.andAx imm, r)
  | 0x27 => .ok (.daa, bs)
  | 0x28 | 0x29 | 0x2A | 0x2B =>
    withModRM op bs fun x r => .ok (.subRmReg (dirOf op) (widthOf op) x.reg x.rm, r)
  | 0x2C => withByte bs fun imm r => .ok (.subAl imm, r)
  | 0x2D => withWord bs fun imm r => .ok (.subAx imm, r)
  | 0x2F => .ok (.das, bs)
  | 0x30 | 0x31 | 0x32 | 0x33 =>
    withModRM op bs fun x r => .ok (.xorRmReg (dirOf op) (widthOf op) x.reg x.rm, r)
  | 0x34 => withByte bs fun imm r => .ok (.xorAl imm, r)
  | 0x35 => withWord bs fun imm r => .ok (.xorAx imm, r)
  | 0x37 => .ok (.aaa, bs)
  | 0x38 | 0x39 | 0x3A | 0x3B =>
    withModRM op bs fun x r => .ok (.cmpRmReg (dirOf op) (widthOf op) x.reg x.rm, r)
  | 0x3C => withByte bs fun imm r => .ok (.cmpAl imm, r)
  | 0x3D => withWord bs fun imm r => .ok (.cmpAx imm, r)
  | 0x3F => .ok (.aas, bs)
  | 0x40 | 0x41 | 0x42 | 0x43 | 0x44 | 0x45 | 0x46 | 0x47 => .ok (.incReg (regOf op), bs)
  | 0x48 | 0x49 | 0x4A | 0x4B | 0x4C | 0x4D | 0x4E | 0x4F => .ok (.decReg (regOf op), bs)
  | 0x50 | 0x51 | 0x52 | 0x53 | 0x54 | 0x55 | 0x56 | 0x57 => .ok (.pushReg (regOf op), bs)
  | 0x58 | 0x59 | 0x5A | 0x5B | 0x5C | 0x5D | 0x5E | 0x5F => .ok (.popReg (regOf op), bs)
  | 0x70 => withByte bs fun rel r => .ok (.jo rel, r)
  | 0x71 => withByte bs fun rel r => .ok (.jno rel, r)
  | 0x72 => withByte bs fun rel r => .ok (.jb rel, r)
  | 0x73 => withByte bs fun rel r => .ok (.jnb rel, r)
  | 0x74 => withByte bs fun rel r => .ok (.jz rel, r)
  | 0x75 => withByte bs fun rel r => .ok (.jnz rel, r)
  | 0x76 => withByte bs fun rel r => .ok (.jbe rel, r)
  | 0x77 => withByte bs fun rel r => .ok (.jnbe rel, r)
  | 0x78 => withByte bs fun rel r => .ok (.js rel, r)
  | 0x79 => withByte bs fun rel r => .ok (.jns rel, r)
  | 0x7A => withByte bs fun rel r => .ok (.jp rel, r)
  | 0x7B => withByte bs fun rel r => .ok (.jnp rel, r)
  | 0x7C => withByte bs fun rel r => .ok (.jl rel, r)
  | 0x7D => withByte bs fun rel r => .ok (.jnl rel, r)
  | 0x7E => withByte bs fun rel r => .ok (.jle rel, r)
  | 0x7F => withByte bs fun rel r => .ok (.jnle rel, r)
  | 0x80 => withModRM op bs fun x r => withByte r fun imm r => .ok (group1Rm8Imm8 x.reg x.rm imm, r)
  | 0x81 => withModRM op bs fun x r => withWord r fun imm r => .ok (group1Rm16Imm16 x.reg x.rm imm, r)
  | 0x82 => withModRM op bs fun x r => withByte r fun imm r => .ok (group1Rm8Imm8Alt x.reg x.rm imm, r)
  | 0x83 => withModRM op bs fun x r => withByte r fun imm r => .ok (group1Rm16Imm8 x.reg x.rm imm, r)
  | 0x84 | 0x85 => withModRM op bs fun x r => .ok (.testRmReg (widthOf op) x.reg x.rm, r)
  | 0x86 | 0x87 => withModRM op bs fun x r => .ok (.xchgRmReg (widthOf op) x.reg x.rm, r)
  | 0x88 | 0x89 | 0x8A | 0x8B =>
    withModRM op bs fun x r => .ok (.movRmReg (dirOf op) (widthOf op) x.reg x.rm, r)
  | 0x8C => withModRM op bs fun x r => .ok (.movRmSreg x.sreg x.rm, r)
  | 0x8D => withModRM op bs fun x r => .ok (.lea x.reg x.rm, r)
  | 0x8E => withModRM op bs fun x r => .ok (.movSregRm x.sreg x.rm, r)
  | 0x8F => withModRM op bs fun x r => .ok (.popRm x.rm, r)
  | 0x90 => .ok (.nop, bs)
  | 0x91 => .ok (.xchgAxCx, bs)
  | 0x92 => .ok (.xchgAxDx, bs)
  | 0x93 => .ok (.xchgAxBx, bs)
  | 0x94 => .ok (.xchgAxSp, bs)
  | 0x95 => .ok (.xchgAxBp, bs)
  | 0x96 => .ok (.xchgAxSi, bs)
  | 0x97 => .ok (.xchgAxDi, bs)
  | 0x98 => .ok (.cbw, bs)
  | 0x99 => .ok (.cwd, bs)
  | 0x9A => withWord bs fun off r => withWord r fun seg r => .ok (.callFar off seg, r)
  | 0x9B => .ok (.wait, bs)
  | 0x9C => .ok (.pushf, bs)
  | 0x9D => .ok (.popf, bs)
  | 0x9E => .ok (.sahf, bs)
  | 0x9F => .ok (.lahf, bs)
  | 0xA0 | 0xA1 => withWord bs fun off r => .ok (.movAccMoffs (widthOf op) off, r)
  | 0xA2 | 0xA3 => withWord bs fun off r => .ok (.movMoffsAcc (widthOf op) off, r)
  | 0xA4 | 0xA5 => .ok (.movs (widthOf op), bs)
  | 0xA6 | 0xA7 => .ok (.cmps (widthOf op), bs)
  | 0xA8 => withByte bs fun imm r => .ok (.testAl imm, r)
  | 0xA9 => withWord bs fun imm r => .ok (.testAx imm, r)
  | 0xAA | 0xAB => .ok (.stos (widthOf op), bs)
  | 0xAC | 0xAD => .ok (.lods (widthOf op), bs)
  | 0xAE | 0xAF => .ok (.scas (widthOf op), bs)
  | 0xB0 | 0xB1 | 0xB2 | 0xB3 | 0xB4 | 0xB5 | 0xB6 | 0xB7 =>
    withByte bs fun imm r => .ok (.movReg8Imm (regOf op) imm, r)
  | 0xB8 | 0xB9 | 0xBA | 0xBB | 0xBC | 0xBD | 0xBE | 0xBF =>
    withWord bs fun imm r => .ok (.movReg16Imm (regOf op) imm, r)
  | 0xC2 => withWord bs fun imm r => .ok (.retImm imm, r)
  | 0xC3 => .ok (.ret, bs)
  | 0xC4 => withModRM op bs fun x r => .ok (.les x.reg x.rm, r)
  | 0xC5 => withModRM op bs fun x r => .ok (.lds x.reg x.rm, r)
  | 0xC6 => withModRM op bs fun x r => withByte r fun imm r => .ok (.movRm8Imm8 x.rm imm, r)
  | 0xC7 => withModRM op bs fun x r => withWord r fun imm r => .ok (.movRm16Imm16 x.rm imm, r)
  | 0xCA => withWord bs fun imm r => .ok (.retfImm imm, r)
  | 0xCB => .ok (.retf, bs)
  | 0xCC => .ok (.int3, bs)
  | 0xCD => withByte bs fun imm r => .ok (.intImm imm, r)
  | 0xCE => .ok (.into, bs)
  | 0xCF => .ok (.iret, bs)
  | 0xD0 | 0xD1 | 0xD2 | 0xD3 => withModRM op bs fun x r => group2 op x r
  | 0xD4 => withByte bs fun imm r => .ok (.aam imm, r)
  | 0xD5 => withByte bs fun imm r => .ok (.aad imm, r)
  | 0xD7 => .ok (.xlat, bs)
  | 0xD8 | 0xD9 | 0xDA | 0xDB | 0xDC | 0xDD | 0xDE | 0xDF =>
    withModRM op bs fun x r => .ok (.esc (regOf op) x.reg x.rm, r)
  | 0xE0 => withByte bs fun rel r => .ok (.loopnz rel, r)
  | 0xE1 => withByte bs fun rel r => .ok (.loopz rel, r)
  | 0xE2 => withByte bs fun rel r => .ok (.loop rel, r)
  | 0xE3 => withByte bs fun rel r => .ok (.jcxz rel, r)
  | 0xE4 | 0xE5 => withByte bs fun port r => .ok (.inImm (widthOf op) port, r)
  | 0xE6 | 0xE7 => withByte bs fun port r => .ok (.outImm (widthOf op) port, r)
  | 0xE8 => withWord bs fun rel r => .ok (.callRel rel, r)
  | 0xE9 => withWord bs fun rel r => .ok (.jmpRel rel, r)
  | 0xEA => withWord bs fun off r => withWord r fun seg r => .ok (.jmpFar off seg, r)
  | 0xEB => withByte bs fun rel r => .ok (.jmpShort rel, r)
  | 0xEC | 0xED => .ok (.inDx (widthOf op), bs)
  | 0xEE | 0xEF => .ok (.outDx (widthOf op), bs)
  | 0xF4 => .ok (.hlt, bs)
  | 0xF5 => .ok (.cmc, bs)
  | 0xF6 | 0xF7 => withModRM op bs fun x r => group3 op x r
  | 0xF8 => .ok (.clc, bs)
  | 0xF9 => .ok (.stc, bs)
  | 0xFA => .ok (.cli, bs)
  | 0xFB => .ok (.sti, bs)
  | 0xFC => .ok (.cld, bs)
  | 0xFD => .ok (.std, bs)
  | 0xFE => withModRM op bs fun x r => group4 op x r
  | 0xFF => withModRM op bs fun x r => group5 op x r
  | _ => .error (.unknownOpcode op)

/-- The prefix bytes (R101). -/
def prefixOf (b : Byte) : Option Prefix :=
  match b.toNat with
  | 0x26 => some (.seg .es)
  | 0x2E => some (.seg .cs)
  | 0x36 => some (.seg .ss)
  | 0x3E => some (.seg .ds)
  | 0xF0 => some .lock
  | 0xF2 => some .repne
  | 0xF3 => some .rep
  | _ => none

/-- The byte of a prefix (R101). -/
def Prefix.byte : Prefix → Byte
  | .seg .es => 0x26
  | .seg .cs => 0x2E
  | .seg .ss => 0x36
  | .seg .ds => 0x3E
  | .lock => 0xF0
  | .repne => 0xF2
  | .rep => 0xF3

/-- The decoder (R129): consume every prefix byte, then the opcode and what follows it. Answers the instruction and
the bytes after it. -/
def decode : List Byte → DecodeResult
  | [] => .error .truncated
  | b :: bs =>
    match prefixOf b with
    | some p =>
      match decode bs with
      | .ok (i, r) => .ok (i.withPrefix p, r)
      | .error e => .error e
    | none => decodeBody b bs

/-! ## Encoding -/

/-- The bytes of a word in memory order (R67). -/
def wordBytes (v : Word) : List Byte := [loByte v, hiByte v]

/-- An opcode with its w bit (R104). -/
def opW (op : Byte) (w : Width) : Byte :=
  match w with
  | .byte => op
  | .word => op ||| 1

/-- An opcode with its d and w bits (R104). -/
def opDW (op : Byte) (d : Dir) (w : Width) : Byte :=
  match d with
  | .toRM => opW op w
  | .toReg => opW op w ||| 2

/-- An opcode with its v and w bits (R104). -/
def opVW (op : Byte) (v : Count) (w : Width) : Byte :=
  match v with
  | .one => opW op w
  | .cl => opW op w ||| 2

/-- An opcode with a register number in bits 2:0 (R105). -/
def opReg (op : Byte) (r : RegNum) : Byte := op ||| r.bits.setWidth 8

/-- A ModRM byte from its three fields (R106). -/
def modRMByte (mod : BitVec 2) (reg rm : BitVec 3) : Byte := (mod ++ reg ++ rm : BitVec 8)

/-- The ModRM byte and the displacement of an operand (R106 to R112). -/
def encodeModRM (reg : RegNum) : RM → List Byte
  | .reg r => [modRMByte 3 reg.bits r.bits]
  | .direct a => modRMByte 0 reg.bits 6 :: wordBytes a
  | .mem b .none => [modRMByte 0 reg.bits b.bits]
  | .mem b (.d8 d) => [modRMByte 1 reg.bits b.bits, d]
  | .mem b (.d16 d) => modRMByte 2 reg.bits b.bits :: wordBytes d

/-- The number of displacement bytes after the ModRM byte (R112). -/
def RM.dispLen : RM → Nat
  | .reg _ => 0
  | .direct _ => 2
  | .mem _ .none => 0
  | .mem _ (.d8 _) => 1
  | .mem _ (.d16 _) => 2

/-- The bytes of an instruction, the lowest address first (R100, R124, R125). -/
def encode : Instr → List Byte
  | .addRmReg d w reg rm => opDW 0x00 d w :: encodeModRM reg rm
  | .addAl imm => [0x04, imm]
  | .addAx imm => 0x05 :: wordBytes imm
  | .addRm8Imm8 rm imm => 0x80 :: encodeModRM .r0 rm ++ [imm]
  | .addRm16Imm16 rm imm => 0x81 :: encodeModRM .r0 rm ++ wordBytes imm
  | .addRm8Imm8Alt rm imm => 0x82 :: encodeModRM .r0 rm ++ [imm]
  | .addRm16Imm8 rm imm => 0x83 :: encodeModRM .r0 rm ++ [imm]
  | .orRmReg d w reg rm => opDW 0x08 d w :: encodeModRM reg rm
  | .orAl imm => [0x0C, imm]
  | .orAx imm => 0x0D :: wordBytes imm
  | .orRm8Imm8 rm imm => 0x80 :: encodeModRM .r1 rm ++ [imm]
  | .orRm16Imm16 rm imm => 0x81 :: encodeModRM .r1 rm ++ wordBytes imm
  | .orRm8Imm8Alt rm imm => 0x82 :: encodeModRM .r1 rm ++ [imm]
  | .orRm16Imm8 rm imm => 0x83 :: encodeModRM .r1 rm ++ [imm]
  | .adcRmReg d w reg rm => opDW 0x10 d w :: encodeModRM reg rm
  | .adcAl imm => [0x14, imm]
  | .adcAx imm => 0x15 :: wordBytes imm
  | .adcRm8Imm8 rm imm => 0x80 :: encodeModRM .r2 rm ++ [imm]
  | .adcRm16Imm16 rm imm => 0x81 :: encodeModRM .r2 rm ++ wordBytes imm
  | .adcRm8Imm8Alt rm imm => 0x82 :: encodeModRM .r2 rm ++ [imm]
  | .adcRm16Imm8 rm imm => 0x83 :: encodeModRM .r2 rm ++ [imm]
  | .sbbRmReg d w reg rm => opDW 0x18 d w :: encodeModRM reg rm
  | .sbbAl imm => [0x1C, imm]
  | .sbbAx imm => 0x1D :: wordBytes imm
  | .sbbRm8Imm8 rm imm => 0x80 :: encodeModRM .r3 rm ++ [imm]
  | .sbbRm16Imm16 rm imm => 0x81 :: encodeModRM .r3 rm ++ wordBytes imm
  | .sbbRm8Imm8Alt rm imm => 0x82 :: encodeModRM .r3 rm ++ [imm]
  | .sbbRm16Imm8 rm imm => 0x83 :: encodeModRM .r3 rm ++ [imm]
  | .andRmReg d w reg rm => opDW 0x20 d w :: encodeModRM reg rm
  | .andAl imm => [0x24, imm]
  | .andAx imm => 0x25 :: wordBytes imm
  | .andRm8Imm8 rm imm => 0x80 :: encodeModRM .r4 rm ++ [imm]
  | .andRm16Imm16 rm imm => 0x81 :: encodeModRM .r4 rm ++ wordBytes imm
  | .andRm8Imm8Alt rm imm => 0x82 :: encodeModRM .r4 rm ++ [imm]
  | .andRm16Imm8 rm imm => 0x83 :: encodeModRM .r4 rm ++ [imm]
  | .subRmReg d w reg rm => opDW 0x28 d w :: encodeModRM reg rm
  | .subAl imm => [0x2C, imm]
  | .subAx imm => 0x2D :: wordBytes imm
  | .subRm8Imm8 rm imm => 0x80 :: encodeModRM .r5 rm ++ [imm]
  | .subRm16Imm16 rm imm => 0x81 :: encodeModRM .r5 rm ++ wordBytes imm
  | .subRm8Imm8Alt rm imm => 0x82 :: encodeModRM .r5 rm ++ [imm]
  | .subRm16Imm8 rm imm => 0x83 :: encodeModRM .r5 rm ++ [imm]
  | .xorRmReg d w reg rm => opDW 0x30 d w :: encodeModRM reg rm
  | .xorAl imm => [0x34, imm]
  | .xorAx imm => 0x35 :: wordBytes imm
  | .xorRm8Imm8 rm imm => 0x80 :: encodeModRM .r6 rm ++ [imm]
  | .xorRm16Imm16 rm imm => 0x81 :: encodeModRM .r6 rm ++ wordBytes imm
  | .xorRm8Imm8Alt rm imm => 0x82 :: encodeModRM .r6 rm ++ [imm]
  | .xorRm16Imm8 rm imm => 0x83 :: encodeModRM .r6 rm ++ [imm]
  | .cmpRmReg d w reg rm => opDW 0x38 d w :: encodeModRM reg rm
  | .cmpAl imm => [0x3C, imm]
  | .cmpAx imm => 0x3D :: wordBytes imm
  | .cmpRm8Imm8 rm imm => 0x80 :: encodeModRM .r7 rm ++ [imm]
  | .cmpRm16Imm16 rm imm => 0x81 :: encodeModRM .r7 rm ++ wordBytes imm
  | .cmpRm8Imm8Alt rm imm => 0x82 :: encodeModRM .r7 rm ++ [imm]
  | .cmpRm16Imm8 rm imm => 0x83 :: encodeModRM .r7 rm ++ [imm]
  | .pushEs => [0x06]
  | .pushCs => [0x0E]
  | .pushSs => [0x16]
  | .pushDs => [0x1E]
  | .popEs => [0x07]
  | .popSs => [0x17]
  | .popDs => [0x1F]
  | .segEs rest => 0x26 :: encode rest
  | .segCs rest => 0x2E :: encode rest
  | .segSs rest => 0x36 :: encode rest
  | .segDs rest => 0x3E :: encode rest
  | .daa => [0x27]
  | .das => [0x2F]
  | .aaa => [0x37]
  | .aas => [0x3F]
  | .incReg r => [opReg 0x40 r]
  | .decReg r => [opReg 0x48 r]
  | .pushReg r => [opReg 0x50 r]
  | .popReg r => [opReg 0x58 r]
  | .jo rel => [0x70, rel]
  | .jno rel => [0x71, rel]
  | .jb rel => [0x72, rel]
  | .jnb rel => [0x73, rel]
  | .jz rel => [0x74, rel]
  | .jnz rel => [0x75, rel]
  | .jbe rel => [0x76, rel]
  | .jnbe rel => [0x77, rel]
  | .js rel => [0x78, rel]
  | .jns rel => [0x79, rel]
  | .jp rel => [0x7A, rel]
  | .jnp rel => [0x7B, rel]
  | .jl rel => [0x7C, rel]
  | .jnl rel => [0x7D, rel]
  | .jle rel => [0x7E, rel]
  | .jnle rel => [0x7F, rel]
  | .testRmReg w reg rm => opW 0x84 w :: encodeModRM reg rm
  | .xchgRmReg w reg rm => opW 0x86 w :: encodeModRM reg rm
  | .movRmReg d w reg rm => opDW 0x88 d w :: encodeModRM reg rm
  | .movRmSreg sr rm => 0x8C :: encodeModRM sr.num rm
  | .lea reg rm => 0x8D :: encodeModRM reg rm
  | .movSregRm sr rm => 0x8E :: encodeModRM sr.num rm
  | .popRm rm => 0x8F :: encodeModRM .r0 rm
  | .nop => [0x90]
  | .xchgAxCx => [0x91]
  | .xchgAxDx => [0x92]
  | .xchgAxBx => [0x93]
  | .xchgAxSp => [0x94]
  | .xchgAxBp => [0x95]
  | .xchgAxSi => [0x96]
  | .xchgAxDi => [0x97]
  | .cbw => [0x98]
  | .cwd => [0x99]
  | .callFar off seg => 0x9A :: (wordBytes off ++ wordBytes seg)
  | .wait => [0x9B]
  | .pushf => [0x9C]
  | .popf => [0x9D]
  | .sahf => [0x9E]
  | .lahf => [0x9F]
  | .movAccMoffs w off => opW 0xA0 w :: wordBytes off
  | .movMoffsAcc w off => opW 0xA2 w :: wordBytes off
  | .movs w => [opW 0xA4 w]
  | .cmps w => [opW 0xA6 w]
  | .testAl imm => [0xA8, imm]
  | .testAx imm => 0xA9 :: wordBytes imm
  | .stos w => [opW 0xAA w]
  | .lods w => [opW 0xAC w]
  | .scas w => [opW 0xAE w]
  | .movReg8Imm r imm => [opReg 0xB0 r, imm]
  | .movReg16Imm r imm => opReg 0xB8 r :: wordBytes imm
  | .retImm imm => 0xC2 :: wordBytes imm
  | .ret => [0xC3]
  | .les reg rm => 0xC4 :: encodeModRM reg rm
  | .lds reg rm => 0xC5 :: encodeModRM reg rm
  | .movRm8Imm8 rm imm => 0xC6 :: encodeModRM .r0 rm ++ [imm]
  | .movRm16Imm16 rm imm => 0xC7 :: encodeModRM .r0 rm ++ wordBytes imm
  | .retfImm imm => 0xCA :: wordBytes imm
  | .retf => [0xCB]
  | .int3 => [0xCC]
  | .intImm imm => [0xCD, imm]
  | .into => [0xCE]
  | .iret => [0xCF]
  | .rolRm v w rm => opVW 0xD0 v w :: encodeModRM .r0 rm
  | .rorRm v w rm => opVW 0xD0 v w :: encodeModRM .r1 rm
  | .rclRm v w rm => opVW 0xD0 v w :: encodeModRM .r2 rm
  | .rcrRm v w rm => opVW 0xD0 v w :: encodeModRM .r3 rm
  | .shlRm v w rm => opVW 0xD0 v w :: encodeModRM .r4 rm
  | .shrRm v w rm => opVW 0xD0 v w :: encodeModRM .r5 rm
  | .sarRm v w rm => opVW 0xD0 v w :: encodeModRM .r7 rm
  | .aam imm => [0xD4, imm]
  | .aad imm => [0xD5, imm]
  | .xlat => [0xD7]
  | .esc hi lo rm => opReg 0xD8 hi :: encodeModRM lo rm
  | .loopnz rel => [0xE0, rel]
  | .loopz rel => [0xE1, rel]
  | .loop rel => [0xE2, rel]
  | .jcxz rel => [0xE3, rel]
  | .inImm w port => [opW 0xE4 w, port]
  | .outImm w port => [opW 0xE6 w, port]
  | .callRel rel => 0xE8 :: wordBytes rel
  | .jmpRel rel => 0xE9 :: wordBytes rel
  | .jmpFar off seg => 0xEA :: (wordBytes off ++ wordBytes seg)
  | .jmpShort rel => [0xEB, rel]
  | .inDx w => [opW 0xEC w]
  | .outDx w => [opW 0xEE w]
  | .lock rest => 0xF0 :: encode rest
  | .repne rest => 0xF2 :: encode rest
  | .rep rest => 0xF3 :: encode rest
  | .hlt => [0xF4]
  | .cmc => [0xF5]
  | .testRm8Imm8 rm imm => 0xF6 :: encodeModRM .r0 rm ++ [imm]
  | .testRm16Imm16 rm imm => 0xF7 :: encodeModRM .r0 rm ++ wordBytes imm
  | .notRm w rm => opW 0xF6 w :: encodeModRM .r2 rm
  | .negRm w rm => opW 0xF6 w :: encodeModRM .r3 rm
  | .mulRm w rm => opW 0xF6 w :: encodeModRM .r4 rm
  | .imulRm w rm => opW 0xF6 w :: encodeModRM .r5 rm
  | .divRm w rm => opW 0xF6 w :: encodeModRM .r6 rm
  | .idivRm w rm => opW 0xF6 w :: encodeModRM .r7 rm
  | .clc => [0xF8]
  | .stc => [0xF9]
  | .cli => [0xFA]
  | .sti => [0xFB]
  | .cld => [0xFC]
  | .std => [0xFD]
  | .incRm w rm => opW 0xFE w :: encodeModRM .r0 rm
  | .decRm w rm => opW 0xFE w :: encodeModRM .r1 rm
  | .callRm rm => 0xFF :: encodeModRM .r2 rm
  | .callFarRm rm => 0xFF :: encodeModRM .r3 rm
  | .jmpRm rm => 0xFF :: encodeModRM .r4 rm
  | .jmpFarRm rm => 0xFF :: encodeModRM .r5 rm
  | .pushRm rm => 0xFF :: encodeModRM .r6 rm

/-- The length of an instruction in bytes, prefixes included (R121). -/
def Instr.len : Instr → Nat
  | .segEs rest | .segCs rest | .segSs rest | .segDs rest | .lock rest | .repne rest | .rep rest => rest.len + 1
  | .addRmReg _ _ _ rm | .orRmReg _ _ _ rm | .adcRmReg _ _ _ rm | .sbbRmReg _ _ _ rm | .andRmReg _ _ _ rm
  | .subRmReg _ _ _ rm | .xorRmReg _ _ _ rm | .cmpRmReg _ _ _ rm | .testRmReg _ _ rm | .xchgRmReg _ _ rm
  | .movRmReg _ _ _ rm | .movRmSreg _ rm | .lea _ rm | .movSregRm _ rm | .popRm rm | .les _ rm | .lds _ rm
  | .rolRm _ _ rm | .rorRm _ _ rm | .rclRm _ _ rm | .rcrRm _ _ rm | .shlRm _ _ rm | .shrRm _ _ rm | .sarRm _ _ rm
  | .esc _ _ rm | .notRm _ rm | .negRm _ rm | .mulRm _ rm | .imulRm _ rm | .divRm _ rm | .idivRm _ rm
  | .incRm _ rm | .decRm _ rm | .callRm rm | .callFarRm rm | .jmpRm rm | .jmpFarRm rm | .pushRm rm => 2 + rm.dispLen
  | .addAl _ | .orAl _ | .adcAl _ | .sbbAl _ | .andAl _ | .subAl _ | .xorAl _ | .cmpAl _ | .jo _ | .jno _ | .jb _
  | .jnb _ | .jz _ | .jnz _ | .jbe _ | .jnbe _ | .js _ | .jns _ | .jp _ | .jnp _ | .jl _ | .jnl _ | .jle _
  | .jnle _ | .testAl _ | .movReg8Imm _ _ | .intImm _ | .aam _ | .aad _ | .loopnz _ | .loopz _ | .loop _ | .jcxz _
  | .inImm _ _ | .outImm _ _ | .jmpShort _ => 2
  | .addAx _ | .orAx _ | .adcAx _ | .sbbAx _ | .andAx _ | .subAx _ | .xorAx _ | .cmpAx _ | .movAccMoffs _ _
  | .movMoffsAcc _ _ | .testAx _ | .movReg16Imm _ _ | .retImm _ | .retfImm _ | .callRel _ | .jmpRel _ => 3
  | .addRm8Imm8 rm _ | .addRm8Imm8Alt rm _ | .addRm16Imm8 rm _ | .orRm8Imm8 rm _ | .orRm8Imm8Alt rm _
  | .orRm16Imm8 rm _ | .adcRm8Imm8 rm _ | .adcRm8Imm8Alt rm _ | .adcRm16Imm8 rm _ | .sbbRm8Imm8 rm _
  | .sbbRm8Imm8Alt rm _ | .sbbRm16Imm8 rm _ | .andRm8Imm8 rm _ | .andRm8Imm8Alt rm _ | .andRm16Imm8 rm _
  | .subRm8Imm8 rm _ | .subRm8Imm8Alt rm _ | .subRm16Imm8 rm _ | .xorRm8Imm8 rm _ | .xorRm8Imm8Alt rm _
  | .xorRm16Imm8 rm _ | .cmpRm8Imm8 rm _ | .cmpRm8Imm8Alt rm _ | .cmpRm16Imm8 rm _ | .movRm8Imm8 rm _
  | .testRm8Imm8 rm _ => 3 + rm.dispLen
  | .addRm16Imm16 rm _ | .orRm16Imm16 rm _ | .adcRm16Imm16 rm _ | .sbbRm16Imm16 rm _ | .andRm16Imm16 rm _
  | .subRm16Imm16 rm _ | .xorRm16Imm16 rm _ | .cmpRm16Imm16 rm _ | .movRm16Imm16 rm _ | .testRm16Imm16 rm _ => 4 + rm.dispLen
  | .pushEs | .pushCs | .pushSs | .pushDs | .popEs | .popSs | .popDs | .daa | .das | .aaa | .aas | .incReg _
  | .decReg _ | .pushReg _ | .popReg _ | .nop | .xchgAxCx | .xchgAxDx | .xchgAxBx | .xchgAxSp | .xchgAxBp
  | .xchgAxSi | .xchgAxDi | .cbw | .cwd | .wait | .pushf | .popf | .sahf | .lahf | .movs _ | .cmps _ | .stos _
  | .lods _ | .scas _ | .ret | .retf | .int3 | .into | .iret | .xlat | .inDx _ | .outDx _ | .hlt | .cmc | .clc
  | .stc | .cli | .sti | .cld | .std => 1
  | .callFar _ _ | .jmpFar _ _ => 5

/-! ## The instruction class -/

/-- The instruction class of the decoder's output (R122): the family whose file gives the instruction's rule. A prefix
is no instruction (R101), so the class is that of the instruction behind it. No behaviour depends on it
(90_conflicts.md C1). -/
def Instr.cls : Instr → InstrClass
  | .segEs rest | .segCs rest | .segSs rest | .segDs rest | .lock rest | .repne rest | .rep rest => rest.cls
  | .pushEs | .pushCs | .pushSs | .pushDs | .popEs | .popSs | .popDs | .pushReg _ | .popReg _
  | .xchgRmReg _ _ _ | .movRmReg _ _ _ _ | .movRmSreg _ _ | .lea _ _ | .movSregRm _ _ | .popRm _ | .xchgAxCx
  | .xchgAxDx | .xchgAxBx | .xchgAxSp | .xchgAxBp | .xchgAxSi | .xchgAxDi | .cbw | .cwd | .pushf | .popf
  | .sahf | .lahf | .movAccMoffs _ _ | .movMoffsAcc _ _ | .movReg8Imm _ _ | .movReg16Imm _ _ | .les _ _
  | .lds _ _ | .movRm8Imm8 _ _ | .movRm16Imm16 _ _ | .xlat | .inImm _ _ | .outImm _ _ | .inDx _ | .outDx _
  | .pushRm _ => .dataTransfer
  | .addRmReg _ _ _ _ | .addAl _ | .addAx _ | .addRm8Imm8 _ _ | .addRm16Imm16 _ _ | .addRm8Imm8Alt _ _
  | .addRm16Imm8 _ _ | .adcRmReg _ _ _ _ | .adcAl _ | .adcAx _ | .adcRm8Imm8 _ _ | .adcRm16Imm16 _ _
  | .adcRm8Imm8Alt _ _ | .adcRm16Imm8 _ _ | .sbbRmReg _ _ _ _ | .sbbAl _ | .sbbAx _ | .sbbRm8Imm8 _ _
  | .sbbRm16Imm16 _ _ | .sbbRm8Imm8Alt _ _ | .sbbRm16Imm8 _ _ | .subRmReg _ _ _ _ | .subAl _ | .subAx _
  | .subRm8Imm8 _ _ | .subRm16Imm16 _ _ | .subRm8Imm8Alt _ _ | .subRm16Imm8 _ _ | .cmpRmReg _ _ _ _ | .cmpAl _
  | .cmpAx _ | .cmpRm8Imm8 _ _ | .cmpRm16Imm16 _ _ | .cmpRm8Imm8Alt _ _ | .cmpRm16Imm8 _ _ | .daa | .das | .aaa
  | .aas | .incReg _ | .decReg _ | .aam _ | .aad _ | .negRm _ _ | .mulRm _ _ | .imulRm _ _ | .divRm _ _
  | .idivRm _ _ | .incRm _ _ | .decRm _ _ => .arithmetic
  | .orRmReg _ _ _ _ | .orAl _ | .orAx _ | .orRm8Imm8 _ _ | .orRm16Imm16 _ _ | .orRm8Imm8Alt _ _
  | .orRm16Imm8 _ _ | .andRmReg _ _ _ _ | .andAl _ | .andAx _ | .andRm8Imm8 _ _ | .andRm16Imm16 _ _
  | .andRm8Imm8Alt _ _ | .andRm16Imm8 _ _ | .xorRmReg _ _ _ _ | .xorAl _ | .xorAx _ | .xorRm8Imm8 _ _
  | .xorRm16Imm16 _ _ | .xorRm8Imm8Alt _ _ | .xorRm16Imm8 _ _ | .testRmReg _ _ _ | .testAl _ | .testAx _
  | .rolRm _ _ _ | .rorRm _ _ _ | .rclRm _ _ _ | .rcrRm _ _ _ | .shlRm _ _ _ | .shrRm _ _ _ | .sarRm _ _ _
  | .testRm8Imm8 _ _ | .testRm16Imm16 _ _ | .notRm _ _ => .logic
  | .movs _ | .cmps _ | .stos _ | .lods _ | .scas _ => .string
  | .jo _ | .jno _ | .jb _ | .jnb _ | .jz _ | .jnz _ | .jbe _ | .jnbe _ | .js _ | .jns _ | .jp _ | .jnp _
  | .jl _ | .jnl _ | .jle _ | .jnle _ | .callFar _ _ | .retImm _ | .ret | .retfImm _ | .retf | .int3
  | .intImm _ | .into | .iret | .loopnz _ | .loopz _ | .loop _ | .jcxz _ | .callRel _ | .jmpRel _ | .jmpFar _ _
  | .jmpShort _ | .callRm _ | .callFarRm _ | .jmpRm _ | .jmpFarRm _ => .controlTransfer
  | .nop | .wait | .esc _ _ _ | .hlt | .cmc | .clc | .stc | .cli | .sti | .cld | .std => .processorControl

/-! ## The numbering of spec/opcode_table.json -/

/-- The bytes of an instruction whose bits are `w` as the opcode table numbers them: the table's 16-bit value is
(b0 << 8) | b1 (R132), so the first byte is bits 15:8 and the second bits 7:0. A row of at most 8 bits is its first
byte alone. Bits above 15, which the table never uses, count on byte by byte. The bytes after them are zero.
DEDUCED (log entry 9). -/
def tableBytes (nbits w : Nat) : List Byte :=
  let v := w % 2 ^ nbits
  if nbits ≤ 8 then BitVec.ofNat 8 v :: List.replicate 7 0
  else
    [BitVec.ofNat 8 (v / 0x100), BitVec.ofNat 8 v, BitVec.ofNat 8 (v / 0x10000), BitVec.ofNat 8 (v / 0x1000000),
      BitVec.ofNat 8 (v / 0x100000000), BitVec.ofNat 8 (v / 0x10000000000), BitVec.ofNat 8 (v / 0x1000000000000),
      BitVec.ofNat 8 (v / 0x100000000000000)]

/-- The instruction the decoder reads from an opcode-table word. -/
def decodeTableWord (nbits w : Nat) : Option Instr :=
  match decode (tableBytes nbits w) with
  | .ok (i, _) => some i
  | .error _ => none

end Sys2Proof
end

