-- ==== Sys2Proof/Config.lean ====
section
/-! DEFINITION. What the host or the environment supplies (R5 of 00_scope.md): the start address and the
content of unlisted memory of `State.reset`, and the free values. -/

namespace Sys2Proof.Config

/-- `START_CS` of the model's `State.reset`. DESIGN CHOICE (log entry 1): the spec leaves it to the host (R5). -/
def startCS : Word := 0

/-- `START_IP` of the model's `State.reset`. DESIGN CHOICE (log entry 1): the spec leaves it to the host (R5). -/
def startIP : Word := 0

/-- What an address that memory does not list reads as. DESIGN CHOICE (log entry 3): the spec leaves `INIT_MEM`
unspecified (R61). -/
def unlistedByte : Byte := 0

/-- The free values of the undefined flags (R38, `UNDEF(F)`): draw number `n` supplies one free bit for every
flag, the bit at that flag's own position. It has no body, so no proof can see a value (log entry 4). -/
opaque freeFlags : Nat → Word

/-- `PortRead(port, n)` (R80): what the environment answers to an IN, as an unconstrained function of the width,
the port and the number of the draw (R5). It has no body (log entry 5). -/
opaque portRead (w : Width) (port : Word) (draw : Nat) : BitVec w.bits

end Sys2Proof.Config
end

