-- ==== Sys2Proof/Machine/State.lean ====
section
/-! DEFINITION. The state of the core (10_state.md, 20_memory.md), its reasons to stop, and reset. -/

namespace Sys2Proof.Machine

/-- The nine defined flags (R30). `intf` is IF, `of` is OF. -/
inductive Flag where
  | cf
  | pf
  | af
  | zf
  | sf
  | tf
  | intf
  | df
  | of
  deriving DecidableEq, Repr

/-- The run state of the fetch-execute loop (R40). No instruction reads it. -/
inductive RunState where
  | running
  | halted
  | faulted
  deriving DecidableEq, Repr

/-- The kinds of the core's faults (R501). -/
inductive FaultKind where
  | decodeFault
  | executionFault
  deriving DecidableEq, Repr

/-- The causes of the core's faults (R501), codes 1.1, 1.2, 2.1, 2.2, 2.3. -/
inductive FaultCause where
  | unknownOpcode
  | unresolvableModRM
  | divideByZero
  | divideOverflow
  | preconditionViolation
  deriving DecidableEq, Repr

/-- The fault record (R41, R504). Its `kind` field is a function of `cause` (`FaultRecord.kind`, log entry 14).
`modrm` holds the ModRM byte for UnresolvableModRM only. -/
structure FaultRecord where
  cause : FaultCause
  cs : Word
  ip : Word
  address : PAddr
  opcode : Byte
  modrm : Option Byte
  deriving DecidableEq, Repr

/-- The direction of a port access: IN reads, OUT writes (R80). -/
inductive IoDir where
  | input
  | output
  deriving DecidableEq, Repr

/-- One event of the I/O interface (R80): direction, port, width, and the value, a byte zero-extended. -/
structure IoEvent where
  dir : IoDir
  port : Word
  width : Width
  value : Word
  deriving DecidableEq, Repr

/-- Memory (R60): the bytes that differ from `Config.unlistedByte`, by strictly rising address. The canonical form
is `Memory.wf` in Machine/Ops.lean. -/
abbrev Memory := List Host.Cell

/-- All the state of the core (10_state.md: "All state of the core is listed here"; memory, 20_memory.md; the I/O
event history, R80 and R503), and the model's own counter of free values. -/
structure State where
  /-- AX, halves AL and AH (R20) -/
  ax : Word
  /-- CX, halves CL and CH (R20) -/
  cx : Word
  /-- DX, halves DL and DH (R20) -/
  dx : Word
  /-- BX, halves BL and BH (R20) -/
  bx : Word
  /-- the stack pointer (R21) -/
  sp : Word
  /-- the base pointer (R21) -/
  bp : Word
  /-- the source index (R21) -/
  si : Word
  /-- the destination index (R21) -/
  di : Word
  /-- the segment of string destinations (R28) -/
  es : Word
  /-- the code segment (R28) -/
  cs : Word
  /-- the stack segment (R28) -/
  ss : Word
  /-- the data segment (R28) -/
  ds : Word
  /-- the instruction pointer (R26) -/
  ip : Word
  /-- FLAGS, all 16 bits, reserved bits included (R30, R34) -/
  flags : Word
  /-- the run state (R40) -/
  run : RunState
  /-- the fault record, `none` when empty (R41) -/
  fault : Option FaultRecord
  /-- the 1 MiB of memory (R60) -/
  mem : Memory
  /-- the I/O events, the oldest first (R80) -/
  io : List IoEvent
  /-- the model's own field: how many free values the run has taken (log entry 4) -/
  draws : Nat
  deriving DecidableEq, Repr

/-- Reasons for a step to have no next state. The core's own faults are NOT here: R503 describes their entry, so
they are next states (log entry 7). -/
inductive Fault where
  /-- Raised by `step` alone, when all 2^20 bytes of memory are prefix bytes: decoding never reaches an opcode and
  "the step does not complete" (R103). A stuck state; safe. -/
  | prefixHang
  deriving DecidableEq, Repr

/-- Reasons for the model to give an instruction no meaning. -/
inductive Refusal where
  /-- Raised by `exec` for an instruction that has no meaning yet; no arm answers it now. Safe. -/
  | notModelled (mnemonic : String)
  deriving DecidableEq, Repr

/-- The outcome of an instruction or a step. -/
abbrev Out := Host.Outcome State Fault Refusal

/-- The machine right after reset (R43, R550), with no seed: every register and all of FLAGS zero, CS:IP at the
start address, Running, no fault record. R43 leaves CS, IP and memory to the host: `Config.startCS`,
`Config.startIP` (log entry 1) and memory with nothing listed (log entry 3) are DESIGN CHOICES, and so are the empty
I/O history (log entry 6) and the counter of free values (log entry 4). -/
def State.reset : State where
  ax := 0
  cx := 0
  dx := 0
  bx := 0
  sp := 0
  bp := 0
  si := 0
  di := 0
  es := 0
  cs := Config.startCS
  ss := 0
  ds := 0
  ip := Config.startIP
  flags := 0
  run := .running
  fault := none
  mem := []
  io := []
  draws := 0

end Sys2Proof.Machine
end

