-- ==== Sys2Proof/Machine/Flags.lean ====
section
/-! DEFINITION. FLAGS (R30 to R38 of 10_state.md) and every flag computation of the rules: R251 (addition and
subtraction), R300 (logic), the shifts and rotates of R307 to R313, the conditions of R372. -/

namespace Sys2Proof.Machine

/-! ## Single flags -/

/-- The bit index of a flag (R30). -/
def Flag.bit : Flag → Nat
  | .cf => 0
  | .pf => 2
  | .af => 4
  | .zf => 6
  | .sf => 7
  | .tf => 8
  | .intf => 9
  | .df => 10
  | .of => 11

/-- The mask of a flag: its one bit (R30). -/
def Flag.mask (f : Flag) : Word := BitVec.twoPow 16 f.bit

/-- `FLAG_MASK`: the nine defined bits (R30). -/
def flagMask : Word := 0x0FD5

/-- The five defined bits of the low byte (R30). -/
def lowFlagMask : Word := 0x00D5

/-- `getFlag(name)` (R31). -/
def getFlag (fl : Word) (f : Flag) : Bool := fl.getLsbD f.bit

/-- `setFlag(name, value)` (R31): OR in the flag's bit, or AND with the complement of that bit's mask. -/
def setFlag (fl : Word) (f : Flag) (b : Bool) : Word := if b then fl ||| f.mask else fl &&& ~~~f.mask

/-- Replace the bits of `fl` that `mask` selects by those of `v`: POPF, IRET (R219, R388) and SAHF (R217). -/
def loadFlags (mask v fl : Word) : Word := (fl &&& ~~~mask) ||| (v &&& mask)

/-- `UNDEF(F)` (R38): the flag takes the free bit at its own position in `free`. -/
def undefFlag (free : Word) (fl : Word) (f : Flag) : Word := setFlag fl f (getFlag free f)

/-- `UNDEF` of several flags, each with its own free bit. -/
def undefFlags (free : Word) (fs : List Flag) (fl : Word) : Word := fs.foldl (undefFlag free) fl

/-! ## Flags of a result -/

/-- `parity8(v)`: the number of 1 bits in `v[7:0]` is even (R8). -/
def parity8 {n : Nat} (v : BitVec n) : Bool := (List.range 8).countP (fun i => v.getLsbD i) % 2 == 0

/-- `SetSZP(N, r)` (R8): SF, ZF and PF of a result. -/
def setSZP {n : Nat} (r : BitVec n) (fl : Word) : Word :=
  setFlag (setFlag (setFlag fl .sf r.msb) .zf (r == 0)) .pf (parity8 r)

/-- The low four bits as a number, for AF. -/
def nibble {n : Nat} (v : BitVec n) : Nat := v.toNat % 16

/-! ## Addition and subtraction (R251) -/

/-- `r` of `AddFlags`: the sum modulo 2^N. -/
def addResult {n : Nat} (a b : BitVec n) (c : Bool) : BitVec n := BitVec.ofNat n (a.toNat + b.toNat + c.toNat)

/-- The flags of `AddFlags(N, a, b, c)`. -/
def addFlags {n : Nat} (a b : BitVec n) (c : Bool) (fl : Word) : Word :=
  let r := addResult a b c
  let fl := setFlag fl .cf (decide (2 ^ n ≤ a.toNat + b.toNat + c.toNat))
  let fl := setFlag fl .af (decide (0xF < nibble a + nibble b + c.toNat))
  let fl := setFlag fl .of ((a ^^^ r) &&& (b ^^^ r)).msb
  setSZP r fl

/-- `r` of `SubFlags`: the difference modulo 2^N. -/
def subResult {n : Nat} (a b : BitVec n) (c : Bool) : BitVec n :=
  BitVec.ofInt n ((a.toNat : Int) - b.toNat - c.toNat)

/-- The flags of `SubFlags(N, a, b, c)`. -/
def subFlags {n : Nat} (a b : BitVec n) (c : Bool) (fl : Word) : Word :=
  let r := subResult a b c
  let fl := setFlag fl .cf (decide ((a.toNat : Int) - b.toNat - c.toNat < 0))
  let fl := setFlag fl .af (decide ((nibble a : Int) - nibble b - c.toNat < 0))
  let fl := setFlag fl .of ((a ^^^ b) &&& (a ^^^ r)).msb
  setSZP r fl

/-! ## Logic (R300) -/

/-- The defined part of `LogicFlags(N, r)`: CF and OF 0, SF ZF PF from the result. AF is `UNDEF`. -/
def logicFlags {n : Nat} (r : BitVec n) (fl : Word) : Word :=
  setSZP r (setFlag (setFlag fl .cf false) .of false)

/-! ## Shifts and rotates (R307 to R313) -/

/-- The seven members of the shift and rotate family. -/
inductive ShiftOp where
  | rol
  | ror
  | rcl
  | rcr
  | shl
  | shr
  | sar
  deriving DecidableEq, Repr

/-- A bit at the top of an N-bit value: `b << (N-1)`. -/
def topBit (n : Nat) (b : Bool) : BitVec n := if b then BitVec.twoPow n (n - 1) else 0

/-- A bit at the bottom of an N-bit value. -/
def lowBit (n : Nat) (b : Bool) : BitVec n := if b then BitVec.twoPow n 0 else 0

/-- One one-bit step: the new CF and the new value (the body of "repeat c times" in R307 to R313). -/
def ShiftOp.step {n : Nat} (op : ShiftOp) (x : Bool × BitVec n) : Bool × BitVec n :=
  match op with
  | .shl => (x.2.msb, x.2 <<< 1)
  | .shr => (x.2.getLsbD 0, x.2 >>> 1)
  | .sar => (x.2.getLsbD 0, (x.2 >>> 1) ||| topBit n x.2.msb)
  | .rol => (x.2.msb, (x.2 <<< 1) ||| lowBit n x.2.msb)
  | .ror => (x.2.getLsbD 0, (x.2 >>> 1) ||| topBit n (x.2.getLsbD 0))
  | .rcl => (x.2.msb, (x.2 <<< 1) ||| lowBit n x.1)
  | .rcr => (x.2.getLsbD 0, (x.2 >>> 1) ||| topBit n x.1)

/-- `c` repetitions of the one-bit step (R306). -/
def ShiftOp.iterate {n : Nat} (op : ShiftOp) : Nat → Bool × BitVec n → Bool × BitVec n
  | 0, x => x
  | c + 1, x => op.iterate c (op.step x)

/-- OF when the count is 1: `orig` is the operand before, `x` the CF and the value after (R307 to R313). -/
def ShiftOp.overflow {n : Nat} (op : ShiftOp) (orig : BitVec n) (x : Bool × BitVec n) : Bool :=
  match op with
  | .shl | .rol | .rcl => Bool.xor x.2.msb x.1
  | .shr => orig.msb
  | .sar => false
  | .ror | .rcr => Bool.xor x.2.msb (x.2.getMsbD 1)

/-- The shifts write SF ZF PF and leave AF undefined; the rotates touch CF and OF only (R33). -/
def ShiftOp.isShift : ShiftOp → Bool
  | .shl | .shr | .sar => true
  | .rol | .ror | .rcl | .rcr => false

/-- The defined flags after `c ≥ 1` one-bit steps: CF, OF when `c = 1`, and SF ZF PF for the shifts. -/
def ShiftOp.flags {n : Nat} (op : ShiftOp) (c : Nat) (orig : BitVec n) (x : Bool × BitVec n) (fl : Word) : Word :=
  let fl := setFlag fl .cf x.1
  let fl := if op.isShift then setSZP x.2 fl else fl
  if c = 1 then setFlag fl .of (op.overflow orig x) else fl

/-- The flags that `c ≥ 1` one-bit steps leave undefined (R33): AF for the shifts, OF when `c ≥ 2`. -/
def ShiftOp.undefined (op : ShiftOp) (c : Nat) : List Flag :=
  (if op.isShift then [.af] else []) ++ (if c = 1 then [] else [.of])

/-! ## Conditions (R372) -/

/-- The sixteen conditions of Jcc, in opcode order 70 to 7F. -/
inductive Cond where
  | o
  | no
  | b
  | nb
  | z
  | nz
  | be
  | nbe
  | s
  | ns
  | p
  | np
  | l
  | nl
  | le
  | nle
  deriving DecidableEq, Repr

/-- `cond(cc)` (R372). -/
def Cond.holds (c : Cond) (fl : Word) : Bool :=
  let cf := getFlag fl .cf
  let zf := getFlag fl .zf
  let sf := getFlag fl .sf
  let off := getFlag fl .of
  let pf := getFlag fl .pf
  match c with
  | .o => off
  | .no => !off
  | .b => cf
  | .nb => !cf
  | .z => zf
  | .nz => !zf
  | .be => cf || zf
  | .nbe => !cf && !zf
  | .s => sf
  | .ns => !sf
  | .p => pf
  | .np => !pf
  | .l => sf != off
  | .nl => sf == off
  | .le => zf || sf != off
  | .nle => !zf && sf == off

end Sys2Proof.Machine
end

