-- ==== Sys2Proof/Machine/Ops.lean ====
section
/-! DEFINITION. The named operations over memory, registers, flags, the stack, the I/O space and the run state
(R7, R8, R20 to R31, R60 to R66, R80, R209), the entry of a fault (R503, R504), and the software interrupt with
its return (R387, R388). -/

namespace Sys2Proof.Machine

/-! ## Memory (20_memory.md) -/

/-- `phys(seg, off) = ((seg << 4) + off) & 0xFFFFF` (R62). -/
def phys (seg off : Word) : PAddr := (seg.setWidth 20 <<< 4) + off.setWidth 20

/-- The byte at a cell address; an address that is not listed reads as `Config.unlistedByte`. -/
def Memory.get : Memory → Nat → Byte
  | [], _ => Config.unlistedByte
  | (b, x) :: m, a => if b = a then x else Memory.get m a

/-- List a byte at its place in the rising order, replacing the one listed there. -/
def Memory.insert : Memory → Nat → Byte → Memory
  | [], a, v => [(a, v)]
  | (b, x) :: m, a, v =>
    if a < b then (a, v) :: (b, x) :: m
    else if a = b then (a, v) :: m
    else (b, x) :: Memory.insert m a v

/-- Store a byte, keeping the canonical form: the value an unlisted address reads as is not listed. -/
def Memory.set (m : Memory) (a : Nat) (v : Byte) : Memory :=
  if v = Config.unlistedByte then m.filter (fun c => c.1 ≠ a) else m.insert a v

/-- Every listed cell lies inside the 1 MiB and differs from what an unlisted address reads as, and the addresses
rise strictly: the ONE form of a memory content. -/
def Memory.wf : Memory → Bool
  | [] => true
  | [(a, v)] => decide (a < 0x100000) && decide (v ≠ Config.unlistedByte)
  | (a, v) :: (b, x) :: m =>
    decide (a < b) && decide (v ≠ Config.unlistedByte) && Memory.wf ((b, x) :: m)

/-- `MemRead(addr, 1)` (R63). -/
def Memory.byteAt (m : Memory) (a : PAddr) : Byte := m.get a.toNat

/-- `MemWrite(addr, 1, v)` (R63). -/
def Memory.setByte (m : Memory) (a : PAddr) (v : Byte) : Memory := m.set a.toNat v

/-- `MemRead(addr, n)` (R63, R64): a word is little-endian, its high byte at the next physical address modulo 2^20. -/
def Memory.read (m : Memory) (w : Width) (a : PAddr) : BitVec w.bits :=
  match w with
  | .byte => m.byteAt a
  | .word => mkWord (m.byteAt (a + 1)) (m.byteAt a)

/-- `MemWrite(addr, n, v)` (R63, R64): the low byte at addr, then the high byte at addr + 1. -/
def Memory.write (m : Memory) (w : Width) (a : PAddr) (v : BitVec w.bits) : Memory :=
  match w, v with
  | .byte, v => m.setByte a v
  | .word, v => (m.setByte a (loByte v)).setByte (a + 1) (hiByte v)

/-- `Read(seg, off, n)` (R8, R65). -/
def State.read (s : State) (w : Width) (seg off : Word) : BitVec w.bits := s.mem.read w (phys seg off)

/-- `Write(seg, off, n, v)` (R8, R65). -/
def State.write (s : State) (w : Width) (seg off : Word) (v : BitVec w.bits) : State :=
  { s with mem := s.mem.write w (phys seg off) v }

/-! ## Registers (10_state.md) -/

/-- Write bits 7:0 of a word register, the sibling half unchanged (R23). -/
def withLo (r : Word) (v : Byte) : Word := mkWord (hiByte r) v

/-- Write bits 15:8 of a word register, the sibling half unchanged (R23). -/
def withHi (r : Word) (v : Byte) : Word := mkWord v (loByte r)

/-- `reg16[i]` (R22). -/
def State.reg16 (s : State) : RegNum → Word
  | .r0 => s.ax
  | .r1 => s.cx
  | .r2 => s.dx
  | .r3 => s.bx
  | .r4 => s.sp
  | .r5 => s.bp
  | .r6 => s.si
  | .r7 => s.di

/-- `reg16[i] <- v` (R22, R23). -/
def State.setReg16 (s : State) (r : RegNum) (v : Word) : State :=
  match r with
  | .r0 => { s with ax := v }
  | .r1 => { s with cx := v }
  | .r2 => { s with dx := v }
  | .r3 => { s with bx := v }
  | .r4 => { s with sp := v }
  | .r5 => { s with bp := v }
  | .r6 => { s with si := v }
  | .r7 => { s with di := v }

/-- `reg8[i]` (R20, R22). -/
def State.reg8 (s : State) : RegNum → Byte
  | .r0 => loByte s.ax
  | .r1 => loByte s.cx
  | .r2 => loByte s.dx
  | .r3 => loByte s.bx
  | .r4 => hiByte s.ax
  | .r5 => hiByte s.cx
  | .r6 => hiByte s.dx
  | .r7 => hiByte s.bx

/-- `reg8[i] <- v`: one half, its sibling unchanged (R22, R23). -/
def State.setReg8 (s : State) (r : RegNum) (v : Byte) : State :=
  match r with
  | .r0 => { s with ax := withLo s.ax v }
  | .r1 => { s with cx := withLo s.cx v }
  | .r2 => { s with dx := withLo s.dx v }
  | .r3 => { s with bx := withLo s.bx v }
  | .r4 => { s with ax := withHi s.ax v }
  | .r5 => { s with cx := withHi s.cx v }
  | .r6 => { s with dx := withHi s.dx v }
  | .r7 => { s with bx := withHi s.bx v }

/-- `reg(w, i)` (R7). -/
def State.reg (s : State) (w : Width) (r : RegNum) : BitVec w.bits :=
  match w with
  | .byte => s.reg8 r
  | .word => s.reg16 r

/-- `reg(w, i) <- v` (R7). -/
def State.setReg (s : State) (w : Width) (r : RegNum) (v : BitVec w.bits) : State :=
  match w, v with
  | .byte, v => s.setReg8 r v
  | .word, v => s.setReg16 r v

/-- `sreg[i]` (R28). -/
def State.sreg (s : State) : SReg → Word
  | .es => s.es
  | .cs => s.cs
  | .ss => s.ss
  | .ds => s.ds

/-- `sreg[i] <- v` (R29). -/
def State.setSreg (s : State) (r : SReg) (v : Word) : State :=
  match r with
  | .es => { s with es := v }
  | .cs => { s with cs := v }
  | .ss => { s with ss := v }
  | .ds => { s with ds := v }

/-- Write FLAGS whole. -/
def State.setFlags (s : State) (fl : Word) : State := { s with flags := fl }

/-- `F <- b` (R7, R31). -/
def State.assignFlag (s : State) (f : Flag) (b : Bool) : State := s.setFlags (setFlag s.flags f b)

/-- `UNDEF` of the listed flags (R38): each takes its bit of the next free value. -/
def State.undef (s : State) (fs : List Flag) : State :=
  { s with flags := undefFlags (Config.freeFlags s.draws) fs s.flags, draws := s.draws + 1 }

/-- `IP <- v`. -/
def State.setIp (s : State) (v : Word) : State := { s with ip := v }

/-- `CS <- seg; IP <- off`. -/
def State.setCsIp (s : State) (seg off : Word) : State := { s with cs := seg, ip := off }

/-! ## The stack (R209) -/

/-- `Push16(v)`: SP is decremented first, then the word is written at the new SS:SP. -/
def State.push16 (s : State) (v : Word) : State :=
  ({ s with sp := s.sp - 2 } : State).write .word s.ss (s.sp - 2) v

/-- The word `Pop16()` returns: the one at SS:SP. -/
def State.stackTop (s : State) : Word := s.read .word s.ss s.sp

/-- The state after `Pop16()`: SP is incremented by 2. -/
def State.pop16 (s : State) : State := { s with sp := s.sp + 2 }

/-- `SP <- (SP + n) & 0xFFFF` (R367, R369). -/
def State.addSp (s : State) (n : Word) : State := { s with sp := s.sp + n }

/-! ## The I/O space (R80) -/

/-- Extend a value of either width to a word with zero bits, for an I/O event. -/
def wordOf (w : Width) (v : BitVec w.bits) : Word :=
  match w, v with
  | .byte, v => zext16 v
  | .word, v => v

/-- The value `PortRead(port, n)` draws: free, a new draw at each execution. -/
def State.portValue (s : State) (w : Width) (port : Word) : BitVec w.bits := Config.portRead w port s.draws

/-- The state after `PortRead(port, n)`: the draw is taken and the event, with the value drawn, recorded. -/
def State.portRead (s : State) (w : Width) (port : Word) : State :=
  { s with io := s.io ++ [⟨.input, port, w, wordOf w (s.portValue w port)⟩], draws := s.draws + 1 }

/-- `PortWrite(port, n, v)`: the event, and no other change. -/
def State.portWrite (s : State) (w : Width) (port : Word) (v : BitVec w.bits) : State :=
  { s with io := s.io ++ [⟨.output, port, w, wordOf w v⟩] }

/-! ## Faults (60_exceptions.md) -/

/-- The kind a cause belongs to (R501). -/
def FaultCause.kind : FaultCause → FaultKind
  | .unknownOpcode => .decodeFault
  | .unresolvableModRM => .decodeFault
  | .divideByZero => .executionFault
  | .divideOverflow => .executionFault
  | .preconditionViolation => .executionFault

/-- The spec's code of a cause (R501): the digits before and after the point. -/
def FaultCause.code : FaultCause → Nat × Nat
  | .unknownOpcode => (1, 1)
  | .unresolvableModRM => (1, 2)
  | .divideByZero => (2, 1)
  | .divideOverflow => (2, 2)
  | .preconditionViolation => (2, 3)

/-- The `kind` field of the fault record (R504). -/
def FaultRecord.kind (r : FaultRecord) : FaultKind := r.cause.kind

/-- Taking a fault (R503, R504): no register, flag, memory byte or I/O event changes, IP still holds the first byte
of the instruction, the record is written and the run state becomes Faulted. -/
def State.takeFault (s : State) (cause : FaultCause) (opcode : Byte) (modrm : Option Byte) : State :=
  { s with
    run := .faulted
    fault := some
      { cause := cause, cs := s.cs, ip := s.ip, address := phys s.cs s.ip, opcode := opcode, modrm := modrm } }

/-! ## Software interrupts (R387, R388, R511) -/

/-- The physical address of the vector of type `t`: 4 × t (R387, R71). -/
def vectorAddr (t : Byte) : PAddr := t.setWidth 20 <<< 2

/-- `Interrupt(t)` (R387): push FLAGS, clear IF and TF, push CS and the return offset `ret`, then load CS:IP from the
vector table at physical 0. -/
def State.interrupt (s : State) (t : Byte) (ret : Word) : State :=
  let s1 := ((s.push16 s.flags).assignFlag .intf false).assignFlag .tf false
  let s2 := (s1.push16 s.cs).push16 ret
  s2.setCsIp (s2.mem.read .word (vectorAddr t + 2)) (s2.mem.read .word (vectorAddr t))

/-- The return from an interrupt (R388): pop IP, CS and FLAGS, the nine defined bits only. -/
def State.interruptReturn (s : State) : State :=
  let o := s.stackTop
  let sg := s.pop16.stackTop
  let f := s.pop16.pop16.stackTop
  (s.pop16.pop16.pop16.setCsIp sg o).setFlags (loadFlags flagMask f s.flags)

end Sys2Proof.Machine
end

