-- ==== Sys2Proof/Machine/Operands.lean ====
section
/-! DEFINITION. The operand forms (R101, R102, R112 to R117, R121 of 30_encoding.md): the prefixes in force, effective
addresses and segments, the register-or-memory location, far pointers, and the offset of the next instruction. -/

namespace Sys2Proof.Machine

/-! ## Prefixes in force -/

/-- The repeat prefixes (R102): F2 sets REPNE, F3 sets REPE. -/
inductive Repeat where
  | repne
  | repe
  deriving DecidableEq, Repr

/-- What the prefixes of an instruction leave for its execution (R102, R122): `segovr`, `rep`, `lock`, and how many
prefix bytes there were (R121). -/
structure Ctx where
  segovr : Option SReg
  rep : Option Repeat
  lock : Bool
  count : Nat
  deriving DecidableEq, Repr

/-- No prefixes: "segovr = none, rep = none, lock = false" (R102). -/
def Ctx.plain : Ctx := ⟨none, none, false, 0⟩

/-- One more prefix byte (R102): a later one of a kind replaces an earlier one. -/
def Ctx.push (c : Ctx) : Prefix → Ctx
  | .seg r => { c with segovr := some r, count := c.count + 1 }
  | .lock => { c with lock := true, count := c.count + 1 }
  | .repne => { c with rep := some .repne, count := c.count + 1 }
  | .rep => { c with rep := some .repe, count := c.count + 1 }

/-- A whole run of prefix bytes, in memory order (R102). -/
def Ctx.ofPrefixes (ps : List Prefix) : Ctx := ps.foldl Ctx.push Ctx.plain

/-- The segment of an overridable operand (R117): the overriding register, or the default. -/
def Ctx.segment (c : Ctx) (dflt : SReg) (s : State) : Word := s.sreg (c.segovr.getD dflt)

/-- `next = (IP + len) & 0xFFFF` (R27, R121): `own` is the length of the instruction without its prefixes. -/
def Ctx.next (c : Ctx) (own : Nat) (s : State) : Word := s.ip + BitVec.ofNat 16 (c.count + own)

/-- `IP <- next` (R27). -/
def State.advance (s : State) (c : Ctx) (own : Nat) : State := s.setIp (c.next own s)

/-! ## Effective addresses -/

/-- The sum of the base and index registers of an expression (R109, R112). -/
def baseOffset (b : Base) (s : State) : Word :=
  match b with
  | .bxsi => s.bx + s.si
  | .bxdi => s.bx + s.di
  | .bpsi => s.bp + s.si
  | .bpdi => s.bp + s.di
  | .si => s.si
  | .di => s.di
  | .bp => s.bp
  | .bx => s.bx

/-- SS for the expressions with BP, DS for the others (R112, R116). -/
def baseSegment : Base → SReg
  | .bpsi | .bpdi | .bp => .ss
  | .bxsi | .bxdi | .si | .di | .bx => .ds

/-- The displacement as a word (R110, R111, R118). -/
def dispValue : Disp → Word
  | .none => 0
  | .d8 d => sext16 d
  | .d16 d => d

/-- `EA` of a memory operand, modulo 2^16 (R112, R113); a register operand has none. -/
def effAddr? (rm : RM) (s : State) : Option Word :=
  match rm with
  | .reg _ => none
  | .direct a => some a
  | .mem b d => some (baseOffset b s + dispValue d)

/-- Where an operand lies: a register, or a segment and an offset. -/
inductive Loc where
  | reg (r : RegNum)
  | mem (seg off : Word)
  deriving DecidableEq, Repr

/-- The location a ModRM operand selects, from the registers at the start of the instruction (R113, R115): computed
once, so that a read-modify-write instruction writes where it read. -/
def Ctx.loc (c : Ctx) (rm : RM) (s : State) : Loc :=
  match rm with
  | .reg r => .reg r
  | .direct a => .mem (c.segment .ds s) a
  | .mem b d => .mem (c.segment (baseSegment b) s) (baseOffset b s + dispValue d)

/-- `ReadRM(w)` at a location (R114). -/
def State.readLoc (s : State) (w : Width) : Loc → BitVec w.bits
  | .reg r => s.reg w r
  | .mem seg off => s.read w seg off

/-- `WriteRM(w, v)` at a location (R115). -/
def State.writeLoc (s : State) (w : Width) (l : Loc) (v : BitVec w.bits) : State :=
  match l with
  | .reg r => s.setReg w r v
  | .mem seg off => s.write w seg off v

/-- The accumulator `acc(w)`: AL or AX (R203). -/
def accLoc : Loc := .reg .r0

/-- `acc(w)`. -/
def State.acc (s : State) (w : Width) : BitVec w.bits := s.reg w .r0

/-- `acc(w) <- v`. -/
def State.setAcc (s : State) (w : Width) (v : BitVec w.bits) : State := s.setReg w .r0 v

/-- A far pointer in memory (R66): the offset word at EA, the segment word at EA + 2 modulo 2^16, as (segment,
offset); a register operand holds none. -/
def Ctx.farPointer? (c : Ctx) (rm : RM) (s : State) : Option (Word × Word) :=
  match c.loc rm s with
  | .reg _ => none
  | .mem seg off => some (s.read .word seg (off + 2), s.read .word seg off)

end Sys2Proof.Machine
end

