-- ==== Sys2Proof/Machine/Alu.lean ====
section
/-! DEFINITION. The two-operand instructions of R250, R300 and R304 as one shared operation: what an operator
computes (R252 to R256, R301 to R304), which flags it writes, and the operand forms. -/

namespace Sys2Proof.Machine

/-- The two-operand operators (R250, R300, R304). -/
inductive AluOp where
  | add
  | or
  | adc
  | sbb
  | and
  | sub
  | xor
  | cmp
  | test
  deriving DecidableEq, Repr

/-- The result for a destination value, a source value and the old CF (R252 to R256, R301 to R304). -/
def AluOp.result {n : Nat} (op : AluOp) (a b : BitVec n) (cf : Bool) : BitVec n :=
  match op with
  | .add => addResult a b false
  | .adc => addResult a b cf
  | .sub => subResult a b false
  | .sbb => subResult a b cf
  | .cmp => subResult a b false
  | .and => a &&& b
  | .or => a ||| b
  | .xor => a ^^^ b
  | .test => a &&& b

/-- CMP and TEST never write their result (R256, R304). -/
def AluOp.writes : AluOp → Bool
  | .add | .or | .adc | .sbb | .and | .sub | .xor => true
  | .cmp | .test => false

/-- The flags an operator writes (R251, R300). -/
def AluOp.setFlags {n : Nat} (op : AluOp) (a b : BitVec n) (s : State) : State :=
  match op with
  | .add => s.setFlags (addFlags a b false s.flags)
  | .adc => s.setFlags (addFlags a b (getFlag s.flags .cf) s.flags)
  | .sub => s.setFlags (subFlags a b false s.flags)
  | .sbb => s.setFlags (subFlags a b (getFlag s.flags .cf) s.flags)
  | .cmp => s.setFlags (subFlags a b false s.flags)
  | .and => (s.setFlags (logicFlags (a &&& b) s.flags)).undef [.af]
  | .or => (s.setFlags (logicFlags (a ||| b) s.flags)).undef [.af]
  | .xor => (s.setFlags (logicFlags (a ^^^ b) s.flags)).undef [.af]
  | .test => (s.setFlags (logicFlags (a &&& b) s.flags)).undef [.af]

/-- "a = value of dst; b = value of src ...; compute r and the flags ...; write r to dst" (R250). -/
def State.alu (s : State) (op : AluOp) (w : Width) (dst : Loc) (b : BitVec w.bits) : State :=
  let a := s.readLoc w dst
  let r := op.result a b (getFlag s.flags .cf)
  let t := op.setFlags a b s
  if op.writes then t.writeLoc w dst r else t

/-- The forms r/m, reg and reg, r/m (R250). -/
def aluRmReg (op : AluOp) (d : Dir) (w : Width) (reg : RegNum) (rm : RM) (c : Ctx) (s : State) : State :=
  let t := match d with
    | .toRM => s.alu op w (c.loc rm s) (s.reg w reg)
    | .toReg => s.alu op w (.reg reg) (s.readLoc w (c.loc rm s))
  t.advance c (2 + rm.dispLen)

/-- The form AL, imm8 (R250). -/
def aluAl (op : AluOp) (imm : Byte) (c : Ctx) (s : State) : State := (s.alu op .byte accLoc imm).advance c 2

/-- The form AX, imm16 (R250). -/
def aluAx (op : AluOp) (imm : Word) (c : Ctx) (s : State) : State := (s.alu op .word accLoc imm).advance c 3

/-- The forms r/m8, imm8 (R250). -/
def aluRm8Imm8 (op : AluOp) (rm : RM) (imm : Byte) (c : Ctx) (s : State) : State :=
  (s.alu op .byte (c.loc rm s) imm).advance c (3 + rm.dispLen)

/-- The form r/m16, imm16 (R250). -/
def aluRm16Imm16 (op : AluOp) (rm : RM) (imm : Word) (c : Ctx) (s : State) : State :=
  (s.alu op .word (c.loc rm s) imm).advance c (4 + rm.dispLen)

/-- The form r/m16, sign-extended imm8 (R250, R119). -/
def aluRm16Imm8 (op : AluOp) (rm : RM) (imm : Byte) (c : Ctx) (s : State) : State :=
  (s.alu op .word (c.loc rm s) (sext16 imm)).advance c (3 + rm.dispLen)

end Sys2Proof.Machine
end

