-- ==== Sys2Proof/Machine/Arithmetic.lean ====
section
/-! DEFINITION. The arithmetic instructions (41_arithmetic.md, R250 to R270). -/

namespace Sys2Proof.Machine

/-! ## ADD -/

/-- 00 to 03: ADD r/m, reg and ADD reg, r/m (R252, R250). -/
def execAddRmReg (d : Dir) (w : Width) (reg : RegNum) (rm : RM) (s : State) (c : Ctx := .plain) : Out :=
  .next (aluRmReg .add d w reg rm c s)

/-- 04: ADD AL, imm8 (R252). -/
def execAddAl (imm : Byte) (s : State) (c : Ctx := .plain) : Out := .next (aluAl .add imm c s)

/-- 05: ADD AX, imm16 (R252). -/
def execAddAx (imm : Word) (s : State) (c : Ctx := .plain) : Out := .next (aluAx .add imm c s)

/-- 80 /0: ADD r/m8, imm8 (R252). -/
def execAddRm8Imm8 (rm : RM) (imm : Byte) (s : State) (c : Ctx := .plain) : Out := .next (aluRm8Imm8 .add rm imm c s)

/-- 81 /0: ADD r/m16, imm16 (R252). -/
def execAddRm16Imm16 (rm : RM) (imm : Word) (s : State) (c : Ctx := .plain) : Out :=
  .next (aluRm16Imm16 .add rm imm c s)

/-- 82 /0: ADD r/m8, imm8, the same as 80 (R252, R125). -/
def execAddRm8Imm8Alt (rm : RM) (imm : Byte) (s : State) (c : Ctx := .plain) : Out :=
  .next (aluRm8Imm8 .add rm imm c s)

/-- 83 /0: ADD r/m16, sign-extended imm8 (R252). -/
def execAddRm16Imm8 (rm : RM) (imm : Byte) (s : State) (c : Ctx := .plain) : Out :=
  .next (aluRm16Imm8 .add rm imm c s)

/-! ## ADC -/

/-- 10 to 13: ADC r/m, reg and ADC reg, r/m (R253, R250). -/
def execAdcRmReg (d : Dir) (w : Width) (reg : RegNum) (rm : RM) (s : State) (c : Ctx := .plain) : Out :=
  .next (aluRmReg .adc d w reg rm c s)

/-- 14: ADC AL, imm8 (R253). -/
def execAdcAl (imm : Byte) (s : State) (c : Ctx := .plain) : Out := .next (aluAl .adc imm c s)

/-- 15: ADC AX, imm16 (R253). -/
def execAdcAx (imm : Word) (s : State) (c : Ctx := .plain) : Out := .next (aluAx .adc imm c s)

/-- 80 /2: ADC r/m8, imm8 (R253). -/
def execAdcRm8Imm8 (rm : RM) (imm : Byte) (s : State) (c : Ctx := .plain) : Out := .next (aluRm8Imm8 .adc rm imm c s)

/-- 81 /2: ADC r/m16, imm16 (R253). -/
def execAdcRm16Imm16 (rm : RM) (imm : Word) (s : State) (c : Ctx := .plain) : Out :=
  .next (aluRm16Imm16 .adc rm imm c s)

/-- 82 /2: ADC r/m8, imm8, the same as 80 (R253, R125). -/
def execAdcRm8Imm8Alt (rm : RM) (imm : Byte) (s : State) (c : Ctx := .plain) : Out :=
  .next (aluRm8Imm8 .adc rm imm c s)

/-- 83 /2: ADC r/m16, sign-extended imm8 (R253). -/
def execAdcRm16Imm8 (rm : RM) (imm : Byte) (s : State) (c : Ctx := .plain) : Out :=
  .next (aluRm16Imm8 .adc rm imm c s)

/-! ## SUB -/

/-- 28 to 2B: SUB r/m, reg and SUB reg, r/m (R254, R250). -/
def execSubRmReg (d : Dir) (w : Width) (reg : RegNum) (rm : RM) (s : State) (c : Ctx := .plain) : Out :=
  .next (aluRmReg .sub d w reg rm c s)

/-- 2C: SUB AL, imm8 (R254). -/
def execSubAl (imm : Byte) (s : State) (c : Ctx := .plain) : Out := .next (aluAl .sub imm c s)

/-- 2D: SUB AX, imm16 (R254). -/
def execSubAx (imm : Word) (s : State) (c : Ctx := .plain) : Out := .next (aluAx .sub imm c s)

/-- 80 /5: SUB r/m8, imm8 (R254). -/
def execSubRm8Imm8 (rm : RM) (imm : Byte) (s : State) (c : Ctx := .plain) : Out := .next (aluRm8Imm8 .sub rm imm c s)

/-- 81 /5: SUB r/m16, imm16 (R254). -/
def execSubRm16Imm16 (rm : RM) (imm : Word) (s : State) (c : Ctx := .plain) : Out :=
  .next (aluRm16Imm16 .sub rm imm c s)

/-- 82 /5: SUB r/m8, imm8, the same as 80 (R254, R125). -/
def execSubRm8Imm8Alt (rm : RM) (imm : Byte) (s : State) (c : Ctx := .plain) : Out :=
  .next (aluRm8Imm8 .sub rm imm c s)

/-- 83 /5: SUB r/m16, sign-extended imm8 (R254). -/
def execSubRm16Imm8 (rm : RM) (imm : Byte) (s : State) (c : Ctx := .plain) : Out :=
  .next (aluRm16Imm8 .sub rm imm c s)

/-! ## SBB -/

/-- 18 to 1B: SBB r/m, reg and SBB reg, r/m (R255, R250). -/
def execSbbRmReg (d : Dir) (w : Width) (reg : RegNum) (rm : RM) (s : State) (c : Ctx := .plain) : Out :=
  .next (aluRmReg .sbb d w reg rm c s)

/-- 1C: SBB AL, imm8 (R255). -/
def execSbbAl (imm : Byte) (s : State) (c : Ctx := .plain) : Out := .next (aluAl .sbb imm c s)

/-- 1D: SBB AX, imm16 (R255). -/
def execSbbAx (imm : Word) (s : State) (c : Ctx := .plain) : Out := .next (aluAx .sbb imm c s)

/-- 80 /3: SBB r/m8, imm8 (R255). -/
def execSbbRm8Imm8 (rm : RM) (imm : Byte) (s : State) (c : Ctx := .plain) : Out := .next (aluRm8Imm8 .sbb rm imm c s)

/-- 81 /3: SBB r/m16, imm16 (R255). -/
def execSbbRm16Imm16 (rm : RM) (imm : Word) (s : State) (c : Ctx := .plain) : Out :=
  .next (aluRm16Imm16 .sbb rm imm c s)

/-- 82 /3: SBB r/m8, imm8, the same as 80 (R255, R125). -/
def execSbbRm8Imm8Alt (rm : RM) (imm : Byte) (s : State) (c : Ctx := .plain) : Out :=
  .next (aluRm8Imm8 .sbb rm imm c s)

/-- 83 /3: SBB r/m16, sign-extended imm8 (R255). -/
def execSbbRm16Imm8 (rm : RM) (imm : Byte) (s : State) (c : Ctx := .plain) : Out :=
  .next (aluRm16Imm8 .sbb rm imm c s)

/-! ## CMP -/

/-- 38 to 3B: CMP r/m, reg and CMP reg, r/m (R256, R250). -/
def execCmpRmReg (d : Dir) (w : Width) (reg : RegNum) (rm : RM) (s : State) (c : Ctx := .plain) : Out :=
  .next (aluRmReg .cmp d w reg rm c s)

/-- 3C: CMP AL, imm8 (R256). -/
def execCmpAl (imm : Byte) (s : State) (c : Ctx := .plain) : Out := .next (aluAl .cmp imm c s)

/-- 3D: CMP AX, imm16 (R256). -/
def execCmpAx (imm : Word) (s : State) (c : Ctx := .plain) : Out := .next (aluAx .cmp imm c s)

/-- 80 /7: CMP r/m8, imm8 (R256). -/
def execCmpRm8Imm8 (rm : RM) (imm : Byte) (s : State) (c : Ctx := .plain) : Out := .next (aluRm8Imm8 .cmp rm imm c s)

/-- 81 /7: CMP r/m16, imm16 (R256). -/
def execCmpRm16Imm16 (rm : RM) (imm : Word) (s : State) (c : Ctx := .plain) : Out :=
  .next (aluRm16Imm16 .cmp rm imm c s)

/-- 82 /7: CMP r/m8, imm8, the same as 80 (R256, R125). -/
def execCmpRm8Imm8Alt (rm : RM) (imm : Byte) (s : State) (c : Ctx := .plain) : Out :=
  .next (aluRm8Imm8 .cmp rm imm c s)

/-- 83 /7: CMP r/m16, sign-extended imm8 (R256). -/
def execCmpRm16Imm8 (rm : RM) (imm : Byte) (s : State) (c : Ctx := .plain) : Out :=
  .next (aluRm16Imm8 .cmp rm imm c s)

/-! ## INC, DEC and NEG -/

/-- `a = operand; save = CF; r = AddFlags(N, a, 1, 0); CF <- save; operand <- r` (R257). -/
def State.inc (s : State) (w : Width) (l : Loc) : State :=
  let a := s.readLoc w l
  (s.setFlags (setFlag (addFlags a 1 false s.flags) .cf (getFlag s.flags .cf))).writeLoc w l (addResult a 1 false)

/-- `a = operand; save = CF; r = SubFlags(N, a, 1, 0); CF <- save; operand <- r` (R258). -/
def State.dec (s : State) (w : Width) (l : Loc) : State :=
  let a := s.readLoc w l
  (s.setFlags (setFlag (subFlags a 1 false s.flags) .cf (getFlag s.flags .cf))).writeLoc w l (subResult a 1 false)

/-- `a = operand; operand <- SubFlags(N, 0, a, 0)` (R259). -/
def State.neg (s : State) (w : Width) (l : Loc) : State :=
  let a := s.readLoc w l
  (s.setFlags (subFlags 0 a false s.flags)).writeLoc w l (subResult 0 a false)

/-- 40+r: INC r16 (R257). -/
def execIncReg (r : RegNum) (s : State) (c : Ctx := .plain) : Out := .next ((s.inc .word (.reg r)).advance c 1)

/-- FE, FF /0: INC r/m (R257). -/
def execIncRm (w : Width) (rm : RM) (s : State) (c : Ctx := .plain) : Out :=
  .next ((s.inc w (c.loc rm s)).advance c (2 + rm.dispLen))

/-- 48+r: DEC r16 (R258). -/
def execDecReg (r : RegNum) (s : State) (c : Ctx := .plain) : Out := .next ((s.dec .word (.reg r)).advance c 1)

/-- FE, FF /1: DEC r/m (R258). -/
def execDecRm (w : Width) (rm : RM) (s : State) (c : Ctx := .plain) : Out :=
  .next ((s.dec w (c.loc rm s)).advance c (2 + rm.dispLen))

/-- F6, F7 /3: NEG r/m (R259). -/
def execNegRm (w : Width) (rm : RM) (s : State) (c : Ctx := .plain) : Out :=
  .next ((s.neg w (c.loc rm s)).advance c (2 + rm.dispLen))

/-! ## MUL and IMUL -/

/-- The double-width product goes to AX (byte form) or DX:AX (word form) (R260, R261); `p` is reduced to the width. -/
def State.setProduct (s : State) (w : Width) (p : Int) : State :=
  match w with
  | .byte => { s with ax := BitVec.ofInt 16 p }
  | .word => { s with dx := (BitVec.ofInt 32 p).extractLsb' 16 16, ax := (BitVec.ofInt 32 p).extractLsb' 0 16 }

/-- `CF <- OF <- big; UNDEF(SF); UNDEF(ZF); UNDEF(AF); UNDEF(PF)` (R260, R261). -/
def State.setProductFlags (s : State) (big : Bool) : State :=
  ((s.assignFlag .cf big).assignFlag .of big).undef [.sf, .zf, .af, .pf]

/-- `p = acc × src`, unsigned (R260). -/
def mulProduct {n : Nat} (a b : BitVec n) : Nat := a.toNat * b.toNat

/-- `p = acc × src`, signed (R261). -/
def imulProduct {n : Nat} (a b : BitVec n) : Int := a.toInt * b.toInt

/-- F6, F7 /4: MUL r/m (R260). CF and OF say that the high half of the product is not zero. -/
def execMulRm (w : Width) (rm : RM) (s : State) (c : Ctx := .plain) : Out :=
  let p := mulProduct (s.acc w) (s.readLoc w (c.loc rm s))
  .next (((s.setProduct w p).setProductFlags (decide (2 ^ w.bits ≤ p))).advance c (2 + rm.dispLen))

/-- F6, F7 /5: IMUL r/m (R261). CF and OF say that the product does not fit the operand width. -/
def execImulRm (w : Width) (rm : RM) (s : State) (c : Ctx := .plain) : Out :=
  let p := imulProduct (s.acc w) (s.readLoc w (c.loc rm s))
  let fits := decide (-2 ^ (w.bits - 1) ≤ p ∧ p < 2 ^ (w.bits - 1))
  .next (((s.setProduct w p).setProductFlags (!fits)).advance c (2 + rm.dispLen))

/-! ## DIV and IDIV -/

/-- The dividend: AX, or DX:AX (R262). -/
def State.dividend (s : State) (w : Width) : BitVec (w.bits + w.bits) :=
  match w with
  | .byte => s.ax
  | .word => s.dx ++ s.ax

/-- Unsigned quotient and remainder, or the fault (R262). -/
def unsignedDivide {n : Nat} (num : BitVec (n + n)) (src : BitVec n) : Except FaultCause (BitVec n × BitVec n) :=
  if src = 0 then .error .divideByZero
  else if 2 ^ n ≤ num.toNat / src.toNat then .error .divideOverflow
  else .ok (BitVec.ofNat n (num.toNat / src.toNat), BitVec.ofNat n (num.toNat % src.toNat))

/-- Signed quotient, truncated toward zero, and remainder, or the fault (R263): the legal quotients are
−(2^(N−1) − 1) to 2^(N−1) − 1. -/
def signedDivide {n : Nat} (num : BitVec (n + n)) (src : BitVec n) : Except FaultCause (BitVec n × BitVec n) :=
  if src = 0 then .error .divideByZero
  else
    let q := num.toInt.tdiv src.toInt
    if 2 ^ (n - 1) - 1 < q ∨ q < -(2 ^ (n - 1) - 1) then .error .divideOverflow
    else .ok (BitVec.ofInt n q, BitVec.ofInt n (num.toInt.tmod src.toInt))

/-- The quotient to AL or AX, the remainder to AH or DX (R262). -/
def State.setQuotient (s : State) (w : Width) (q r : BitVec w.bits) : State :=
  match w, q, r with
  | .byte, q, r => { s with ax := mkWord r q }
  | .word, q, r => { s with ax := q, dx := r }

/-- The six status flags (00_scope.md, glossary). -/
def statusFlags : List Flag := [.cf, .pf, .af, .zf, .sf, .of]

/-- The end of a division: the results and six undefined flags, or the fault (R262, R263). -/
def State.finishDivide (s : State) (w : Width) (rm : RM) (c : Ctx)
    (res : Except FaultCause (BitVec w.bits × BitVec w.bits)) : State :=
  match res with
  | .ok (q, r) => ((s.setQuotient w q r).undef statusFlags).advance c (2 + rm.dispLen)
  | .error cause => s.takeFault cause (opW 0xF6 w) none

/-- F6, F7 /6: DIV r/m (R262). -/
def execDivRm (w : Width) (rm : RM) (s : State) (c : Ctx := .plain) : Out :=
  .next (s.finishDivide w rm c (unsignedDivide (s.dividend w) (s.readLoc w (c.loc rm s))))

/-- F6, F7 /7: IDIV r/m (R263). -/
def execIdivRm (w : Width) (rm : RM) (s : State) (c : Ctx := .plain) : Out :=
  .next (s.finishDivide w rm c (signedDivide (s.dividend w) (s.readLoc w (c.loc rm s))))

/-! ## BCD adjustments -/

/-- The test "(AL & 0x0F) > 9 or AF == 1" (R264 to R267). -/
def State.lowNibbleAdjusts (s : State) : Bool := decide (9 < nibble (loByte s.ax)) || getFlag s.flags .af

/-- The test "old_AL > 0x99 or old_CF == 1" (R265, R267). -/
def State.highNibbleAdjusts (s : State) : Bool := decide (0x99 < (loByte s.ax).toNat) || getFlag s.flags .cf

/-- AAA and AAS (R264, R266): `six` and `one` are 6 and 1, or −6 and −1. -/
def State.asciiAdjust (s : State) (six one : Byte) : State :=
  let adj := s.lowNibbleAdjusts
  let al := if adj then loByte s.ax + six else loByte s.ax
  let ah := if adj then hiByte s.ax + one else hiByte s.ax
  ((({ s with ax := mkWord ah (al &&& 0x0F) } : State).assignFlag .af adj).assignFlag .cf adj).undef [.of, .sf, .zf, .pf]

/-- DAA and DAS (R265, R267): `six` and `sixty` are 6 and 0x60, or their negatives. -/
def State.decimalAdjust (s : State) (six sixty : Byte) : State :=
  let lo := s.lowNibbleAdjusts
  let hi := s.highNibbleAdjusts
  let al := if lo then loByte s.ax + six else loByte s.ax
  let al := if hi then al + sixty else al
  let t := (s.setReg8 .r0 al).setFlags (setSZP al (setFlag (setFlag s.flags .af lo) .cf hi))
  t.undef [.of]

/-- 37: AAA (R264). -/
def execAaa (s : State) (c : Ctx := .plain) : Out := .next ((s.asciiAdjust 6 1).advance c 1)

/-- 3F: AAS (R266). -/
def execAas (s : State) (c : Ctx := .plain) : Out := .next ((s.asciiAdjust (-6) (-1)).advance c 1)

/-- 27: DAA (R265). -/
def execDaa (s : State) (c : Ctx := .plain) : Out := .next ((s.decimalAdjust 6 0x60).advance c 1)

/-- 2F: DAS (R267). -/
def execDas (s : State) (c : Ctx := .plain) : Out := .next ((s.decimalAdjust (-6) (-0x60)).advance c 1)

/-- AX, SF ZF PF from AL, and OF AF CF undefined: the end of AAM and AAD (R268, R269). -/
def State.setAdjusted (s : State) (ah al : Byte) : State :=
  (({ s with ax := mkWord ah al } : State).setFlags (setSZP al s.flags)).undef [.of, .af, .cf]

/-- D4: AAM imm8 (R268). A zero immediate is a division by zero. -/
def execAam (imm : Byte) (s : State) (c : Ctx := .plain) : Out :=
  if imm = 0 then .next (s.takeFault .divideByZero 0xD4 none)
  else .next ((s.setAdjusted (loByte s.ax / imm) (loByte s.ax % imm)).advance c 2)

/-- D5: AAD imm8 (R269). -/
def execAad (imm : Byte) (s : State) (c : Ctx := .plain) : Out :=
  .next ((s.setAdjusted 0 (loByte s.ax + hiByte s.ax * imm)).advance c 2)

end Sys2Proof.Machine
end

