-- ==== Sys2Proof/Machine/ControlTransfer.lean ====
section
/-! DEFINITION. The control transfer instructions (44_control_transfer.md, R360 to R388). -/

namespace Sys2Proof.Machine

/-! ## CALL -/

/-- `Push16(CS); Push16(next); CS <- seg; IP <- off` (R362, R378): `ret` is `next`. -/
def State.callFarTo (s : State) (seg off ret : Word) : State := ((s.push16 s.cs).push16 ret).setCsIp seg off

/-- E8: CALL rel16 (R360). -/
def execCallRel (rel : Word) (s : State) (c : Ctx := .plain) : Out :=
  .next ((s.push16 (c.next 3 s)).setIp (c.next 3 s + rel))

/-- FF /2: CALL r/m16 (R361). The target is read before the push. -/
def execCallRm (rm : RM) (s : State) (c : Ctx := .plain) : Out :=
  .next ((s.push16 (c.next (2 + rm.dispLen) s)).setIp (s.readLoc .word (c.loc rm s)))

/-- 9A: CALL ptr16:16 (R362). -/
def execCallFar (off seg : Word) (s : State) (c : Ctx := .plain) : Out := .next (s.callFarTo seg off (c.next 5 s))

/-- FF /3: CALL m16:16; mod = 3 is no encoding (R378, R127). A register operand is no encoding: PreconditionViolation (R509, log entry 13). -/
def execCallFarRm (rm : RM) (s : State) (c : Ctx := .plain) : Out :=
  match c.farPointer? rm s with
  | some (sg, off) => .next (s.callFarTo sg off (c.next (2 + rm.dispLen) s))
  | none => .next (s.takeFault .preconditionViolation 0xFF none)

/-! ## JMP -/

/-- EB: JMP rel8 (R363). -/
def execJmpShort (rel : Byte) (s : State) (c : Ctx := .plain) : Out := .next (s.setIp (c.next 2 s + sext16 rel))

/-- E9: JMP rel16 (R364). -/
def execJmpRel (rel : Word) (s : State) (c : Ctx := .plain) : Out := .next (s.setIp (c.next 3 s + rel))

/-- FF /4: JMP r/m16 (R379). -/
def execJmpRm (rm : RM) (s : State) (c : Ctx := .plain) : Out := .next (s.setIp (s.readLoc .word (c.loc rm s)))

/-- EA: JMP ptr16:16 (R365). -/
def execJmpFar (off seg : Word) (s : State) (_c : Ctx := .plain) : Out := .next (s.setCsIp seg off)

/-- FF /5: JMP m16:16; mod = 3 is no encoding (R380, R127). A register operand is no encoding: PreconditionViolation (R509, log entry 13). -/
def execJmpFarRm (rm : RM) (s : State) (c : Ctx := .plain) : Out :=
  match c.farPointer? rm s with
  | some (sg, off) => .next (s.setCsIp sg off)
  | none => .next (s.takeFault .preconditionViolation 0xFF none)

/-! ## RET -/

/-- `o = Pop16(); s = Pop16(); CS <- s; IP <- o`, with `SP <- SP + n` after the pops (R368, R369). -/
def State.retFar (s : State) (n : Word) : State :=
  (s.pop16.pop16.addSp n).setCsIp s.pop16.stackTop s.stackTop

/-- C3: RET (R366). -/
def execRet (s : State) (_c : Ctx := .plain) : Out := .next (s.pop16.setIp s.stackTop)

/-- C2: RET imm16 (R367). -/
def execRetImm (imm : Word) (s : State) (_c : Ctx := .plain) : Out := .next ((s.pop16.addSp imm).setIp s.stackTop)

/-- CB: RETF (R368). -/
def execRetf (s : State) (_c : Ctx := .plain) : Out := .next (s.retFar 0)

/-- CA: RETF imm16 (R369). -/
def execRetfImm (imm : Word) (s : State) (_c : Ctx := .plain) : Out := .next (s.retFar imm)

/-! ## Conditional jumps -/

/-- `if taken: IP <- (next + sext_16(rel8)) & 0xFFFF else IP <- next`, with next = IP + 2 and the prefixes (R371). -/
def State.branch (s : State) (c : Ctx) (taken : Bool) (rel : Byte) : State :=
  s.setIp (if taken then c.next 2 s + sext16 rel else c.next 2 s)

/-- 70: JO rel8 (R372). -/
def execJo (rel : Byte) (s : State) (c : Ctx := .plain) : Out := .next (s.branch c (Cond.o.holds s.flags) rel)

/-- 71: JNO rel8 (R372). -/
def execJno (rel : Byte) (s : State) (c : Ctx := .plain) : Out := .next (s.branch c (Cond.no.holds s.flags) rel)

/-- 72: JB rel8 (R372). -/
def execJb (rel : Byte) (s : State) (c : Ctx := .plain) : Out := .next (s.branch c (Cond.b.holds s.flags) rel)

/-- 73: JNB rel8 (R372). -/
def execJnb (rel : Byte) (s : State) (c : Ctx := .plain) : Out := .next (s.branch c (Cond.nb.holds s.flags) rel)

/-- 74: JZ rel8 (R372). -/
def execJz (rel : Byte) (s : State) (c : Ctx := .plain) : Out := .next (s.branch c (Cond.z.holds s.flags) rel)

/-- 75: JNZ rel8 (R372). -/
def execJnz (rel : Byte) (s : State) (c : Ctx := .plain) : Out := .next (s.branch c (Cond.nz.holds s.flags) rel)

/-- 76: JBE rel8 (R372). -/
def execJbe (rel : Byte) (s : State) (c : Ctx := .plain) : Out := .next (s.branch c (Cond.be.holds s.flags) rel)

/-- 77: JNBE rel8 (R372). -/
def execJnbe (rel : Byte) (s : State) (c : Ctx := .plain) : Out := .next (s.branch c (Cond.nbe.holds s.flags) rel)

/-- 78: JS rel8 (R372). -/
def execJs (rel : Byte) (s : State) (c : Ctx := .plain) : Out := .next (s.branch c (Cond.s.holds s.flags) rel)

/-- 79: JNS rel8 (R372). -/
def execJns (rel : Byte) (s : State) (c : Ctx := .plain) : Out := .next (s.branch c (Cond.ns.holds s.flags) rel)

/-- 7A: JP rel8 (R372). -/
def execJp (rel : Byte) (s : State) (c : Ctx := .plain) : Out := .next (s.branch c (Cond.p.holds s.flags) rel)

/-- 7B: JNP rel8 (R372). -/
def execJnp (rel : Byte) (s : State) (c : Ctx := .plain) : Out := .next (s.branch c (Cond.np.holds s.flags) rel)

/-- 7C: JL rel8 (R372). -/
def execJl (rel : Byte) (s : State) (c : Ctx := .plain) : Out := .next (s.branch c (Cond.l.holds s.flags) rel)

/-- 7D: JNL rel8 (R372). -/
def execJnl (rel : Byte) (s : State) (c : Ctx := .plain) : Out := .next (s.branch c (Cond.nl.holds s.flags) rel)

/-- 7E: JLE rel8 (R372). -/
def execJle (rel : Byte) (s : State) (c : Ctx := .plain) : Out := .next (s.branch c (Cond.le.holds s.flags) rel)

/-- 7F: JNLE rel8 (R372). -/
def execJnle (rel : Byte) (s : State) (c : Ctx := .plain) : Out := .next (s.branch c (Cond.nle.holds s.flags) rel)

/-! ## LOOP family and JCXZ -/

/-- `CX <- (CX − 1) & 0xFFFF`, no flag written (R374). -/
def State.loopCount (s : State) : State := { s with cx := s.cx - 1 }

/-- E2: LOOP rel8 (R374). -/
def execLoop (rel : Byte) (s : State) (c : Ctx := .plain) : Out := .next (s.loopCount.branch c (s.cx - 1 != 0) rel)

/-- E1: LOOPZ rel8 (R375). -/
def execLoopz (rel : Byte) (s : State) (c : Ctx := .plain) : Out :=
  .next (s.loopCount.branch c (s.cx - 1 != 0 && getFlag s.flags .zf) rel)

/-- E0: LOOPNZ rel8 (R376). -/
def execLoopnz (rel : Byte) (s : State) (c : Ctx := .plain) : Out :=
  .next (s.loopCount.branch c (s.cx - 1 != 0 && !getFlag s.flags .zf) rel)

/-- E3: JCXZ rel8 (R377). -/
def execJcxz (rel : Byte) (s : State) (c : Ctx := .plain) : Out := .next (s.branch c (s.cx == 0) rel)

/-! ## Software interrupts -/

/-- CD: INT imm8 (R384). -/
def execIntImm (imm : Byte) (s : State) (c : Ctx := .plain) : Out := .next (s.interrupt imm (c.next 2 s))

/-- CC: INT3 (R385). -/
def execInt3 (s : State) (c : Ctx := .plain) : Out := .next (s.interrupt 3 (c.next 1 s))

/-- CE: INTO (R386). Not taken, only IP changes. -/
def execInto (s : State) (c : Ctx := .plain) : Out :=
  .next (if getFlag s.flags .of then s.interrupt 4 (c.next 1 s) else s.advance c 1)

/-- CF: IRET (R388). -/
def execIret (s : State) (_c : Ctx := .plain) : Out := .next s.interruptReturn

end Sys2Proof.Machine
end

