-- ==== Sys2Proof/Machine/DataTransfer.lean ====
section
/-! DEFINITION. The data transfer instructions (40_data_transfer.md, R200 to R224): none writes a flag but SAHF and
POPF. -/

namespace Sys2Proof.Machine

/-! ## MOV -/

/-- 88 to 8B: MOV r/m, reg and MOV reg, r/m (R200). -/
def execMovRmReg (d : Dir) (w : Width) (reg : RegNum) (rm : RM) (s : State) (c : Ctx := .plain) : Out :=
  let t := match d with
    | .toRM => s.writeLoc w (c.loc rm s) (s.reg w reg)
    | .toReg => s.setReg w reg (s.readLoc w (c.loc rm s))
  .next (t.advance c (2 + rm.dispLen))

/-- B0+r: MOV r8, imm8 (R201). -/
def execMovReg8Imm (r : RegNum) (imm : Byte) (s : State) (c : Ctx := .plain) : Out :=
  .next ((s.setReg8 r imm).advance c 2)

/-- B8+r: MOV r16, imm16 (R201). -/
def execMovReg16Imm (r : RegNum) (imm : Word) (s : State) (c : Ctx := .plain) : Out :=
  .next ((s.setReg16 r imm).advance c 3)

/-- C6 /0: MOV r/m8, imm8 (R202). -/
def execMovRm8Imm8 (rm : RM) (imm : Byte) (s : State) (c : Ctx := .plain) : Out :=
  .next ((s.writeLoc .byte (c.loc rm s) imm).advance c (3 + rm.dispLen))

/-- C7 /0: MOV r/m16, imm16 (R202). -/
def execMovRm16Imm16 (rm : RM) (imm : Word) (s : State) (c : Ctx := .plain) : Out :=
  .next ((s.writeLoc .word (c.loc rm s) imm).advance c (4 + rm.dispLen))

/-- A0, A1: MOV AL/AX, [moffs] (R203). -/
def execMovAccMoffs (w : Width) (off : Word) (s : State) (c : Ctx := .plain) : Out :=
  .next ((s.setAcc w (s.read w (c.segment .ds s) off)).advance c 3)

/-- A2, A3: MOV [moffs], AL/AX (R204). -/
def execMovMoffsAcc (w : Width) (off : Word) (s : State) (c : Ctx := .plain) : Out :=
  .next ((s.write w (c.segment .ds s) off (s.acc w)).advance c 3)

/-- 8C: MOV r/m16, sreg (R205). -/
def execMovRmSreg (sr : SReg) (rm : RM) (s : State) (c : Ctx := .plain) : Out :=
  .next ((s.writeLoc .word (c.loc rm s) (s.sreg sr)).advance c (2 + rm.dispLen))

/-- 8E: MOV sreg, r/m16 (R206). The destination may be CS: IP then advances within the new segment. -/
def execMovSregRm (sr : SReg) (rm : RM) (s : State) (c : Ctx := .plain) : Out :=
  .next ((s.setSreg sr (s.readLoc .word (c.loc rm s))).advance c (2 + rm.dispLen))

/-! ## PUSH and POP -/

/-- The word a PUSH of a register or memory operand writes (R207): for SP the decremented SP, else the operand. -/
def pushValue (l : Loc) (s : State) : Word := if l = .reg .r4 then s.sp - 2 else s.readLoc .word l

/-- 50+r: PUSH r16 (R207). -/
def execPushReg (r : RegNum) (s : State) (c : Ctx := .plain) : Out :=
  .next ((s.push16 (pushValue (.reg r) s)).advance c 1)

/-- FF /6: PUSH r/m16 (R207). The operand is read before SP is decremented. -/
def execPushRm (rm : RM) (s : State) (c : Ctx := .plain) : Out :=
  .next ((s.push16 (pushValue (c.loc rm s) s)).advance c (2 + rm.dispLen))

/-- 06: PUSH ES (R207). -/
def execPushEs (s : State) (c : Ctx := .plain) : Out := .next ((s.push16 s.es).advance c 1)

/-- 0E: PUSH CS (R207). -/
def execPushCs (s : State) (c : Ctx := .plain) : Out := .next ((s.push16 s.cs).advance c 1)

/-- 16: PUSH SS (R207). -/
def execPushSs (s : State) (c : Ctx := .plain) : Out := .next ((s.push16 s.ss).advance c 1)

/-- 1E: PUSH DS (R207). -/
def execPushDs (s : State) (c : Ctx := .plain) : Out := .next ((s.push16 s.ds).advance c 1)

/-- 58+r: POP r16 (R208). POP SP ends with SP = the popped word. -/
def execPopReg (r : RegNum) (s : State) (c : Ctx := .plain) : Out :=
  .next ((s.pop16.setReg16 r s.stackTop).advance c 1)

/-- 8F /0: POP r/m16 (R208). EA comes from the registers at the start. -/
def execPopRm (rm : RM) (s : State) (c : Ctx := .plain) : Out :=
  .next ((s.pop16.writeLoc .word (c.loc rm s) s.stackTop).advance c (2 + rm.dispLen))

/-- 07: POP ES (R208). -/
def execPopEs (s : State) (c : Ctx := .plain) : Out := .next ((s.pop16.setSreg .es s.stackTop).advance c 1)

/-- 17: POP SS (R208). -/
def execPopSs (s : State) (c : Ctx := .plain) : Out := .next ((s.pop16.setSreg .ss s.stackTop).advance c 1)

/-- 1F: POP DS (R208). -/
def execPopDs (s : State) (c : Ctx := .plain) : Out := .next ((s.pop16.setSreg .ds s.stackTop).advance c 1)

/-! ## XCHG -/

/-- `t = AX; AX <- reg16[r]; reg16[r] <- t` (R211). -/
def xchgAx (r : RegNum) (c : Ctx) (s : State) : State :=
  ((s.setReg16 .r0 (s.reg16 r)).setReg16 r s.ax).advance c 1

/-- 91: XCHG AX, CX (R211). -/
def execXchgAxCx (s : State) (c : Ctx := .plain) : Out := .next (xchgAx .r1 c s)

/-- 92: XCHG AX, DX (R211). -/
def execXchgAxDx (s : State) (c : Ctx := .plain) : Out := .next (xchgAx .r2 c s)

/-- 93: XCHG AX, BX (R211). -/
def execXchgAxBx (s : State) (c : Ctx := .plain) : Out := .next (xchgAx .r3 c s)

/-- 94: XCHG AX, SP (R211). -/
def execXchgAxSp (s : State) (c : Ctx := .plain) : Out := .next (xchgAx .r4 c s)

/-- 95: XCHG AX, BP (R211). -/
def execXchgAxBp (s : State) (c : Ctx := .plain) : Out := .next (xchgAx .r5 c s)

/-- 96: XCHG AX, SI (R211). -/
def execXchgAxSi (s : State) (c : Ctx := .plain) : Out := .next (xchgAx .r6 c s)

/-- 97: XCHG AX, DI (R211). -/
def execXchgAxDi (s : State) (c : Ctx := .plain) : Out := .next (xchgAx .r7 c s)

/-- 86, 87: XCHG reg, r/m (R212). `t = ReadRM(w); WriteRM(w, reg(w, reg)); reg(w, reg) <- t`. -/
def execXchgRmReg (w : Width) (reg : RegNum) (rm : RM) (s : State) (c : Ctx := .plain) : Out :=
  let l := c.loc rm s
  .next (((s.writeLoc w l (s.reg w reg)).setReg w reg (s.readLoc w l)).advance c (2 + rm.dispLen))

/-! ## IN and OUT -/

/-- `acc(w) <- PortRead(port, 1 + w)` (R213). -/
def State.inPort (s : State) (w : Width) (port : Word) : State := (s.portRead w port).setAcc w (s.portValue w port)

/-- E4, E5: IN AL/AX, imm8 (R213). -/
def execInImm (w : Width) (port : Byte) (s : State) (c : Ctx := .plain) : Out :=
  .next ((s.inPort w (zext16 port)).advance c 2)

/-- EC, ED: IN AL/AX, DX (R213). -/
def execInDx (w : Width) (s : State) (c : Ctx := .plain) : Out := .next ((s.inPort w s.dx).advance c 1)

/-- E6, E7: OUT imm8, AL/AX (R214). -/
def execOutImm (w : Width) (port : Byte) (s : State) (c : Ctx := .plain) : Out :=
  .next ((s.portWrite w (zext16 port) (s.acc w)).advance c 2)

/-- EE, EF: OUT DX, AL/AX (R214). -/
def execOutDx (w : Width) (s : State) (c : Ctx := .plain) : Out := .next ((s.portWrite w s.dx (s.acc w)).advance c 1)

/-! ## Address and pointer loads -/

/-- 8D: LEA reg16, m; mod = 3 is no encoding (R215, R127). A register operand is no encoding: PreconditionViolation (R509, log entry 13). -/
def execLea (reg : RegNum) (rm : RM) (s : State) (c : Ctx := .plain) : Out :=
  match effAddr? rm s with
  | some ea => .next ((s.setReg16 reg ea).advance c (2 + rm.dispLen))
  | none => .next (s.takeFault .preconditionViolation 0x8D none)

/-- C5: LDS reg16, m16:16; mod = 3 is no encoding (R220, R127). A register operand is no encoding: PreconditionViolation (R509, log entry 13). -/
def execLds (reg : RegNum) (rm : RM) (s : State) (c : Ctx := .plain) : Out :=
  match c.farPointer? rm s with
  | some (sg, off) => .next (((s.setReg16 reg off).setSreg .ds sg).advance c (2 + rm.dispLen))
  | none => .next (s.takeFault .preconditionViolation 0xC5 none)

/-- C4: LES reg16, m16:16; mod = 3 is no encoding (R221, R127). A register operand is no encoding: PreconditionViolation (R509, log entry 13). -/
def execLes (reg : RegNum) (rm : RM) (s : State) (c : Ctx := .plain) : Out :=
  match c.farPointer? rm s with
  | some (sg, off) => .next (((s.setReg16 reg off).setSreg .es sg).advance c (2 + rm.dispLen))
  | none => .next (s.takeFault .preconditionViolation 0xC4 none)

/-! ## Flag transfers -/

/-- 9F: LAHF (R216). -/
def execLahf (s : State) (c : Ctx := .plain) : Out := .next ((s.setReg8 .r4 (loByte s.flags)).advance c 1)

/-- 9E: SAHF (R217). -/
def execSahf (s : State) (c : Ctx := .plain) : Out :=
  .next ((s.setFlags (loadFlags lowFlagMask (zext16 (hiByte s.ax)) s.flags)).advance c 1)

/-- 9C: PUSHF (R218). -/
def execPushf (s : State) (c : Ctx := .plain) : Out := .next ((s.push16 s.flags).advance c 1)

/-- 9D: POPF (R219). -/
def execPopf (s : State) (c : Ctx := .plain) : Out :=
  .next ((s.pop16.setFlags (loadFlags flagMask s.stackTop s.flags)).advance c 1)

/-! ## Conversions and table look-up -/

/-- 98: CBW (R222). AH becomes the sign of AL. -/
def execCbw (s : State) (c : Ctx := .plain) : Out :=
  .next ((s.setReg8 .r4 (if (loByte s.ax).msb then 0xFF else 0x00)).advance c 1)

/-- 99: CWD (R223). DX becomes the sign of AX. -/
def execCwd (s : State) (c : Ctx := .plain) : Out :=
  .next ((s.setReg16 .r2 (if s.ax.msb then 0xFFFF else 0x0000)).advance c 1)

/-- D7: XLAT (R224). The table segment is DS, overridable. -/
def execXlat (s : State) (c : Ctx := .plain) : Out :=
  .next ((s.setReg8 .r0 (s.read .byte (c.segment .ds s) (s.bx + zext16 (loByte s.ax)))).advance c 1)

end Sys2Proof.Machine
end

