-- ==== Sys2Proof/Machine/Logic.lean ====
section
/-! DEFINITION. The logic, shift and rotate instructions (42_logic_shift.md, R300 to R313). -/

namespace Sys2Proof.Machine

/-! ## AND -/

/-- 20 to 23: AND r/m, reg and AND reg, r/m (R301, R250). -/
def execAndRmReg (d : Dir) (w : Width) (reg : RegNum) (rm : RM) (s : State) (c : Ctx := .plain) : Out :=
  .next (aluRmReg .and d w reg rm c s)

/-- 24: AND AL, imm8 (R301). -/
def execAndAl (imm : Byte) (s : State) (c : Ctx := .plain) : Out := .next (aluAl .and imm c s)

/-- 25: AND AX, imm16 (R301). -/
def execAndAx (imm : Word) (s : State) (c : Ctx := .plain) : Out := .next (aluAx .and imm c s)

/-- 80 /4: AND r/m8, imm8 (R301). -/
def execAndRm8Imm8 (rm : RM) (imm : Byte) (s : State) (c : Ctx := .plain) : Out := .next (aluRm8Imm8 .and rm imm c s)

/-- 81 /4: AND r/m16, imm16 (R301). -/
def execAndRm16Imm16 (rm : RM) (imm : Word) (s : State) (c : Ctx := .plain) : Out :=
  .next (aluRm16Imm16 .and rm imm c s)

/-- 82 /4: AND r/m8, imm8, the same as 80 (R301, R125). -/
def execAndRm8Imm8Alt (rm : RM) (imm : Byte) (s : State) (c : Ctx := .plain) : Out :=
  .next (aluRm8Imm8 .and rm imm c s)

/-- 83 /4: AND r/m16, sign-extended imm8 (R301). -/
def execAndRm16Imm8 (rm : RM) (imm : Byte) (s : State) (c : Ctx := .plain) : Out :=
  .next (aluRm16Imm8 .and rm imm c s)

/-! ## OR -/

/-- 08 to 0B: OR r/m, reg and OR reg, r/m (R302, R250). -/
def execOrRmReg (d : Dir) (w : Width) (reg : RegNum) (rm : RM) (s : State) (c : Ctx := .plain) : Out :=
  .next (aluRmReg .or d w reg rm c s)

/-- 0C: OR AL, imm8 (R302). -/
def execOrAl (imm : Byte) (s : State) (c : Ctx := .plain) : Out := .next (aluAl .or imm c s)

/-- 0D: OR AX, imm16 (R302). -/
def execOrAx (imm : Word) (s : State) (c : Ctx := .plain) : Out := .next (aluAx .or imm c s)

/-- 80 /1: OR r/m8, imm8 (R302). -/
def execOrRm8Imm8 (rm : RM) (imm : Byte) (s : State) (c : Ctx := .plain) : Out := .next (aluRm8Imm8 .or rm imm c s)

/-- 81 /1: OR r/m16, imm16 (R302). -/
def execOrRm16Imm16 (rm : RM) (imm : Word) (s : State) (c : Ctx := .plain) : Out :=
  .next (aluRm16Imm16 .or rm imm c s)

/-- 82 /1: OR r/m8, imm8, the same as 80 (R302, R125). -/
def execOrRm8Imm8Alt (rm : RM) (imm : Byte) (s : State) (c : Ctx := .plain) : Out := .next (aluRm8Imm8 .or rm imm c s)

/-- 83 /1: OR r/m16, sign-extended imm8 (R302). -/
def execOrRm16Imm8 (rm : RM) (imm : Byte) (s : State) (c : Ctx := .plain) : Out := .next (aluRm16Imm8 .or rm imm c s)

/-! ## XOR -/

/-- 30 to 33: XOR r/m, reg and XOR reg, r/m (R303, R250). -/
def execXorRmReg (d : Dir) (w : Width) (reg : RegNum) (rm : RM) (s : State) (c : Ctx := .plain) : Out :=
  .next (aluRmReg .xor d w reg rm c s)

/-- 34: XOR AL, imm8 (R303). -/
def execXorAl (imm : Byte) (s : State) (c : Ctx := .plain) : Out := .next (aluAl .xor imm c s)

/-- 35: XOR AX, imm16 (R303). -/
def execXorAx (imm : Word) (s : State) (c : Ctx := .plain) : Out := .next (aluAx .xor imm c s)

/-- 80 /6: XOR r/m8, imm8 (R303). -/
def execXorRm8Imm8 (rm : RM) (imm : Byte) (s : State) (c : Ctx := .plain) : Out := .next (aluRm8Imm8 .xor rm imm c s)

/-- 81 /6: XOR r/m16, imm16 (R303). -/
def execXorRm16Imm16 (rm : RM) (imm : Word) (s : State) (c : Ctx := .plain) : Out :=
  .next (aluRm16Imm16 .xor rm imm c s)

/-- 82 /6: XOR r/m8, imm8, the same as 80 (R303, R125). -/
def execXorRm8Imm8Alt (rm : RM) (imm : Byte) (s : State) (c : Ctx := .plain) : Out :=
  .next (aluRm8Imm8 .xor rm imm c s)

/-- 83 /6: XOR r/m16, sign-extended imm8 (R303). -/
def execXorRm16Imm8 (rm : RM) (imm : Byte) (s : State) (c : Ctx := .plain) : Out :=
  .next (aluRm16Imm8 .xor rm imm c s)

/-! ## TEST and NOT -/

/-- 84, 85: TEST r/m, reg (R304). -/
def execTestRmReg (w : Width) (reg : RegNum) (rm : RM) (s : State) (c : Ctx := .plain) : Out :=
  .next (aluRmReg .test .toRM w reg rm c s)

/-- A8: TEST AL, imm8 (R304). -/
def execTestAl (imm : Byte) (s : State) (c : Ctx := .plain) : Out := .next (aluAl .test imm c s)

/-- A9: TEST AX, imm16 (R304). -/
def execTestAx (imm : Word) (s : State) (c : Ctx := .plain) : Out := .next (aluAx .test imm c s)

/-- F6 /0: TEST r/m8, imm8 (R304). -/
def execTestRm8Imm8 (rm : RM) (imm : Byte) (s : State) (c : Ctx := .plain) : Out :=
  .next (aluRm8Imm8 .test rm imm c s)

/-- F7 /0: TEST r/m16, imm16 (R304). -/
def execTestRm16Imm16 (rm : RM) (imm : Word) (s : State) (c : Ctx := .plain) : Out :=
  .next (aluRm16Imm16 .test rm imm c s)

/-- F6, F7 /2: NOT r/m (R305). No flag is written. -/
def execNotRm (w : Width) (rm : RM) (s : State) (c : Ctx := .plain) : Out :=
  let l := c.loc rm s
  .next ((s.writeLoc w l (~~~(s.readLoc w l))).advance c (2 + rm.dispLen))

/-! ## Shifts and rotates -/

/-- The count (R306): 1, or all eight bits of CL, unmasked. -/
def State.shiftCount (s : State) : Count → Nat
  | .one => 1
  | .cl => (loByte s.cx).toNat

/-- `c` repetitions of the one-bit step on an operand (R306): with `c = 0` nothing changes. -/
def State.shift (s : State) (op : ShiftOp) (w : Width) (l : Loc) (c : Nat) : State :=
  if c = 0 then s
  else
    let orig := s.readLoc w l
    let x := op.iterate c (getFlag s.flags .cf, orig)
    let t := (s.setFlags (op.flags c orig x s.flags)).writeLoc w l x.2
    if (op.undefined c).isEmpty then t else t.undef (op.undefined c)

/-- A member of the family on a ModRM operand (R306). -/
def shiftRm (op : ShiftOp) (v : Count) (w : Width) (rm : RM) (c : Ctx) (s : State) : State :=
  (s.shift op w (c.loc rm s) (s.shiftCount v)).advance c (2 + rm.dispLen)

/-- D0 to D3 /0: ROL r/m by 1 or by CL (R310, R306). -/
def execRolRm (v : Count) (w : Width) (rm : RM) (s : State) (c : Ctx := .plain) : Out :=
  .next (shiftRm .rol v w rm c s)

/-- D0 to D3 /1: ROR r/m by 1 or by CL (R311, R306). -/
def execRorRm (v : Count) (w : Width) (rm : RM) (s : State) (c : Ctx := .plain) : Out :=
  .next (shiftRm .ror v w rm c s)

/-- D0 to D3 /2: RCL r/m by 1 or by CL (R312, R306). -/
def execRclRm (v : Count) (w : Width) (rm : RM) (s : State) (c : Ctx := .plain) : Out :=
  .next (shiftRm .rcl v w rm c s)

/-- D0 to D3 /3: RCR r/m by 1 or by CL (R313, R306). -/
def execRcrRm (v : Count) (w : Width) (rm : RM) (s : State) (c : Ctx := .plain) : Out :=
  .next (shiftRm .rcr v w rm c s)

/-- D0 to D3 /4: SHL r/m by 1 or by CL (R307, R306). -/
def execShlRm (v : Count) (w : Width) (rm : RM) (s : State) (c : Ctx := .plain) : Out :=
  .next (shiftRm .shl v w rm c s)

/-- D0 to D3 /5: SHR r/m by 1 or by CL (R308, R306). -/
def execShrRm (v : Count) (w : Width) (rm : RM) (s : State) (c : Ctx := .plain) : Out :=
  .next (shiftRm .shr v w rm c s)

/-- D0 to D3 /7: SAR r/m by 1 or by CL (R309, R306). -/
def execSarRm (v : Count) (w : Width) (rm : RM) (s : State) (c : Ctx := .plain) : Out :=
  .next (shiftRm .sar v w rm c s)

end Sys2Proof.Machine
end

