-- ==== Sys2Proof/Machine/ProcessorControl.lean ====
section
/-! DEFINITION. The processor control instructions (45_processor_control.md, R410 to R421), NOP among them. -/

namespace Sys2Proof.Machine

/-! ## Flag instructions -/

/-- F8: CLC (R410). -/
def execClc (s : State) (c : Ctx := .plain) : Out := .next ((s.assignFlag .cf false).advance c 1)

/-- F9: STC (R411). -/
def execStc (s : State) (c : Ctx := .plain) : Out := .next ((s.assignFlag .cf true).advance c 1)

/-- FC: CLD (R413). -/
def execCld (s : State) (c : Ctx := .plain) : Out := .next ((s.assignFlag .df false).advance c 1)

/-- FD: STD (R414). -/
def execStd (s : State) (c : Ctx := .plain) : Out := .next ((s.assignFlag .df true).advance c 1)

/-- FA: CLI (R415). -/
def execCli (s : State) (c : Ctx := .plain) : Out := .next ((s.assignFlag .intf false).advance c 1)

/-- FB: STI (R416). -/
def execSti (s : State) (c : Ctx := .plain) : Out := .next ((s.assignFlag .intf true).advance c 1)

/-- F5: CMC (R412). -/
def execCmc (s : State) (c : Ctx := .plain) : Out := .next ((s.assignFlag .cf (!getFlag s.flags .cf)).advance c 1)

/-! ## Halt and no-operations -/

/-- The run state Halted (R417, R556). -/
def State.halt (s : State) : State := { s with run := .halted }

/-- F4: HLT (R417). IP is already the offset after it. -/
def execHlt (s : State) (c : Ctx := .plain) : Out := .next (s.advance c 1).halt

/-- 9B: WAIT (R418). It never waits. -/
def execWait (s : State) (c : Ctx := .plain) : Out := .next (s.advance c 1)

/-- 90: NOP, which is XCHG AX, AX (R421). -/
def execNop (s : State) (c : Ctx := .plain) : Out := .next (s.advance c 1)

/-- D8 to DF: ESC, opcode bits 2:0 and the ModRM reg field ignored (R420). The operand is decoded and not read. -/
def execEsc (_hi _lo : RegNum) (rm : RM) (s : State) (c : Ctx := .plain) : Out := .next (s.advance c (2 + rm.dispLen))

end Sys2Proof.Machine
end

