-- ==== Sys2Proof/Machine/Strings.lean ====
section
/-! DEFINITION. The string instructions and their repetition (43_string.md, R340 to R348). -/

namespace Sys2Proof.Machine

/-- The five string instructions. -/
inductive StringOp where
  | movs
  | lods
  | cmps
  | scas
  | stos
  deriving DecidableEq, Repr

/-- `delta = n if DF == 0 else −n` (R341). -/
def State.stringDelta (s : State) (w : Width) : Word :=
  if getFlag s.flags .df then -BitVec.ofNat 16 w.bytes else BitVec.ofNat 16 w.bytes

/-- Advance SI (R341). -/
def State.stepSi (s : State) (w : Width) : State := { s with si := s.si + s.stringDelta w }

/-- Advance DI (R341). -/
def State.stepDi (s : State) (w : Width) : State := { s with di := s.di + s.stringDelta w }

/-- The source element (R342): DS:SI, the segment overridable. -/
def Ctx.source (c : Ctx) (w : Width) (s : State) : BitVec w.bits := s.read w (c.segment .ds s) s.si

/-- The destination element (R342): ES:DI, not overridable. -/
def State.destination (s : State) (w : Width) : BitVec w.bits := s.read w s.es s.di

/-- One repetition (R343 to R347). -/
def State.stringOnce (s : State) (op : StringOp) (w : Width) (c : Ctx) : State :=
  match op with
  | .movs => ((s.write w s.es s.di (c.source w s)).stepSi w).stepDi w
  | .lods => (s.setAcc w (c.source w s)).stepSi w
  | .cmps => ((s.setFlags (subFlags (c.source w s) (s.destination w) false s.flags)).stepSi w).stepDi w
  | .scas => (s.setFlags (subFlags (s.acc w) (s.destination w) false s.flags)).stepDi w
  | .stos => (s.write w s.es s.di (s.acc w)).stepDi w

/-- CMPS and SCAS test ZF after each repetition (R348). -/
def StringOp.compares : StringOp → Bool
  | .cmps | .scas => true
  | .movs | .lods | .stos => false

/-- The ZF test that ends a repeated comparison (R348): REPE at ZF = 0, REPNE at ZF = 1. -/
def Repeat.stops (r : Repeat) (s : State) : Bool :=
  match r with
  | .repe => !getFlag s.flags .zf
  | .repne => getFlag s.flags .zf

/-- `CX <- (CX - 1) & 0xFFFF`. -/
def State.decCx (s : State) : State := { s with cx := s.cx - 1 }

/-- The loop of R348 for at most `n` repetitions, `n` being CX: no string instruction writes CX itself. -/
def State.stringLoop (op : StringOp) (w : Width) (c : Ctx) (r : Repeat) : Nat → State → State
  | 0, s => s
  | n + 1, s =>
    let t := (s.stringOnce op w c).decCx
    if op.compares && r.stops t then t else State.stringLoop op w c r n t

/-- A string instruction (R348): one repetition without a repeat prefix, the whole loop with one. -/
def stringExec (op : StringOp) (w : Width) (c : Ctx) (s : State) : State :=
  let t := match c.rep with
    | none => s.stringOnce op w c
    | some r => State.stringLoop op w c r s.cx.toNat s
  t.advance c 1

/-- A4, A5: MOVSB, MOVSW (R343). -/
def execMovs (w : Width) (s : State) (c : Ctx := .plain) : Out := .next (stringExec .movs w c s)

/-- AC, AD: LODSB, LODSW (R344). -/
def execLods (w : Width) (s : State) (c : Ctx := .plain) : Out := .next (stringExec .lods w c s)

/-- A6, A7: CMPSB, CMPSW (R345). -/
def execCmps (w : Width) (s : State) (c : Ctx := .plain) : Out := .next (stringExec .cmps w c s)

/-- AE, AF: SCASB, SCASW (R346). -/
def execScas (w : Width) (s : State) (c : Ctx := .plain) : Out := .next (stringExec .scas w c s)

/-- AA, AB: STOSB, STOSW (R347). -/
def execStos (w : Width) (s : State) (c : Ctx := .plain) : Out := .next (stringExec .stos w c s)

end Sys2Proof.Machine
end

