-- ==== Sys2Proof/Machine/Prefixes.lean ====
section
/-! DEFINITION. The prefixes (R101, R102, R117, R348, R419): an instruction under the prefixes in front of it, and the
seven prefix rows. A prefix and the instruction it precedes are one instruction, executed in one step (R101). -/

namespace Sys2Proof.Machine

/-- The instruction `i` under the prefixes already consumed, `c` (R102): each further prefix byte is accumulated, then
the instruction itself runs with what they leave. `exec i` is `execUnder .plain i`. -/
def execUnder (c : Ctx) (i : Instr) (s : State) : Out :=
  match i with
  | .addRmReg d w reg rm => execAddRmReg d w reg rm s c
  | .addAl imm => execAddAl imm s c
  | .addAx imm => execAddAx imm s c
  | .addRm8Imm8 rm imm => execAddRm8Imm8 rm imm s c
  | .addRm16Imm16 rm imm => execAddRm16Imm16 rm imm s c
  | .addRm8Imm8Alt rm imm => execAddRm8Imm8Alt rm imm s c
  | .addRm16Imm8 rm imm => execAddRm16Imm8 rm imm s c
  | .orRmReg d w reg rm => execOrRmReg d w reg rm s c
  | .orAl imm => execOrAl imm s c
  | .orAx imm => execOrAx imm s c
  | .orRm8Imm8 rm imm => execOrRm8Imm8 rm imm s c
  | .orRm16Imm16 rm imm => execOrRm16Imm16 rm imm s c
  | .orRm8Imm8Alt rm imm => execOrRm8Imm8Alt rm imm s c
  | .orRm16Imm8 rm imm => execOrRm16Imm8 rm imm s c
  | .adcRmReg d w reg rm => execAdcRmReg d w reg rm s c
  | .adcAl imm => execAdcAl imm s c
  | .adcAx imm => execAdcAx imm s c
  | .adcRm8Imm8 rm imm => execAdcRm8Imm8 rm imm s c
  | .adcRm16Imm16 rm imm => execAdcRm16Imm16 rm imm s c
  | .adcRm8Imm8Alt rm imm => execAdcRm8Imm8Alt rm imm s c
  | .adcRm16Imm8 rm imm => execAdcRm16Imm8 rm imm s c
  | .sbbRmReg d w reg rm => execSbbRmReg d w reg rm s c
  | .sbbAl imm => execSbbAl imm s c
  | .sbbAx imm => execSbbAx imm s c
  | .sbbRm8Imm8 rm imm => execSbbRm8Imm8 rm imm s c
  | .sbbRm16Imm16 rm imm => execSbbRm16Imm16 rm imm s c
  | .sbbRm8Imm8Alt rm imm => execSbbRm8Imm8Alt rm imm s c
  | .sbbRm16Imm8 rm imm => execSbbRm16Imm8 rm imm s c
  | .andRmReg d w reg rm => execAndRmReg d w reg rm s c
  | .andAl imm => execAndAl imm s c
  | .andAx imm => execAndAx imm s c
  | .andRm8Imm8 rm imm => execAndRm8Imm8 rm imm s c
  | .andRm16Imm16 rm imm => execAndRm16Imm16 rm imm s c
  | .andRm8Imm8Alt rm imm => execAndRm8Imm8Alt rm imm s c
  | .andRm16Imm8 rm imm => execAndRm16Imm8 rm imm s c
  | .subRmReg d w reg rm => execSubRmReg d w reg rm s c
  | .subAl imm => execSubAl imm s c
  | .subAx imm => execSubAx imm s c
  | .subRm8Imm8 rm imm => execSubRm8Imm8 rm imm s c
  | .subRm16Imm16 rm imm => execSubRm16Imm16 rm imm s c
  | .subRm8Imm8Alt rm imm => execSubRm8Imm8Alt rm imm s c
  | .subRm16Imm8 rm imm => execSubRm16Imm8 rm imm s c
  | .xorRmReg d w reg rm => execXorRmReg d w reg rm s c
  | .xorAl imm => execXorAl imm s c
  | .xorAx imm => execXorAx imm s c
  | .xorRm8Imm8 rm imm => execXorRm8Imm8 rm imm s c
  | .xorRm16Imm16 rm imm => execXorRm16Imm16 rm imm s c
  | .xorRm8Imm8Alt rm imm => execXorRm8Imm8Alt rm imm s c
  | .xorRm16Imm8 rm imm => execXorRm16Imm8 rm imm s c
  | .cmpRmReg d w reg rm => execCmpRmReg d w reg rm s c
  | .cmpAl imm => execCmpAl imm s c
  | .cmpAx imm => execCmpAx imm s c
  | .cmpRm8Imm8 rm imm => execCmpRm8Imm8 rm imm s c
  | .cmpRm16Imm16 rm imm => execCmpRm16Imm16 rm imm s c
  | .cmpRm8Imm8Alt rm imm => execCmpRm8Imm8Alt rm imm s c
  | .cmpRm16Imm8 rm imm => execCmpRm16Imm8 rm imm s c
  | .pushEs => execPushEs s c
  | .pushCs => execPushCs s c
  | .pushSs => execPushSs s c
  | .pushDs => execPushDs s c
  | .popEs => execPopEs s c
  | .popSs => execPopSs s c
  | .popDs => execPopDs s c
  | .segEs rest => execUnder (c.push (.seg .es)) rest s
  | .segCs rest => execUnder (c.push (.seg .cs)) rest s
  | .segSs rest => execUnder (c.push (.seg .ss)) rest s
  | .segDs rest => execUnder (c.push (.seg .ds)) rest s
  | .daa => execDaa s c
  | .das => execDas s c
  | .aaa => execAaa s c
  | .aas => execAas s c
  | .incReg r => execIncReg r s c
  | .decReg r => execDecReg r s c
  | .pushReg r => execPushReg r s c
  | .popReg r => execPopReg r s c
  | .jo rel => execJo rel s c
  | .jno rel => execJno rel s c
  | .jb rel => execJb rel s c
  | .jnb rel => execJnb rel s c
  | .jz rel => execJz rel s c
  | .jnz rel => execJnz rel s c
  | .jbe rel => execJbe rel s c
  | .jnbe rel => execJnbe rel s c
  | .js rel => execJs rel s c
  | .jns rel => execJns rel s c
  | .jp rel => execJp rel s c
  | .jnp rel => execJnp rel s c
  | .jl rel => execJl rel s c
  | .jnl rel => execJnl rel s c
  | .jle rel => execJle rel s c
  | .jnle rel => execJnle rel s c
  | .testRmReg w reg rm => execTestRmReg w reg rm s c
  | .xchgRmReg w reg rm => execXchgRmReg w reg rm s c
  | .movRmReg d w reg rm => execMovRmReg d w reg rm s c
  | .movRmSreg sr rm => execMovRmSreg sr rm s c
  | .lea reg rm => execLea reg rm s c
  | .movSregRm sr rm => execMovSregRm sr rm s c
  | .popRm rm => execPopRm rm s c
  | .nop => execNop s c
  | .xchgAxCx => execXchgAxCx s c
  | .xchgAxDx => execXchgAxDx s c
  | .xchgAxBx => execXchgAxBx s c
  | .xchgAxSp => execXchgAxSp s c
  | .xchgAxBp => execXchgAxBp s c
  | .xchgAxSi => execXchgAxSi s c
  | .xchgAxDi => execXchgAxDi s c
  | .cbw => execCbw s c
  | .cwd => execCwd s c
  | .callFar off seg => execCallFar off seg s c
  | .wait => execWait s c
  | .pushf => execPushf s c
  | .popf => execPopf s c
  | .sahf => execSahf s c
  | .lahf => execLahf s c
  | .movAccMoffs w off => execMovAccMoffs w off s c
  | .movMoffsAcc w off => execMovMoffsAcc w off s c
  | .movs w => execMovs w s c
  | .cmps w => execCmps w s c
  | .testAl imm => execTestAl imm s c
  | .testAx imm => execTestAx imm s c
  | .stos w => execStos w s c
  | .lods w => execLods w s c
  | .scas w => execScas w s c
  | .movReg8Imm r imm => execMovReg8Imm r imm s c
  | .movReg16Imm r imm => execMovReg16Imm r imm s c
  | .retImm imm => execRetImm imm s c
  | .ret => execRet s c
  | .les reg rm => execLes reg rm s c
  | .lds reg rm => execLds reg rm s c
  | .movRm8Imm8 rm imm => execMovRm8Imm8 rm imm s c
  | .movRm16Imm16 rm imm => execMovRm16Imm16 rm imm s c
  | .retfImm imm => execRetfImm imm s c
  | .retf => execRetf s c
  | .int3 => execInt3 s c
  | .intImm imm => execIntImm imm s c
  | .into => execInto s c
  | .iret => execIret s c
  | .rolRm v w rm => execRolRm v w rm s c
  | .rorRm v w rm => execRorRm v w rm s c
  | .rclRm v w rm => execRclRm v w rm s c
  | .rcrRm v w rm => execRcrRm v w rm s c
  | .shlRm v w rm => execShlRm v w rm s c
  | .shrRm v w rm => execShrRm v w rm s c
  | .sarRm v w rm => execSarRm v w rm s c
  | .aam imm => execAam imm s c
  | .aad imm => execAad imm s c
  | .xlat => execXlat s c
  | .esc hi lo rm => execEsc hi lo rm s c
  | .loopnz rel => execLoopnz rel s c
  | .loopz rel => execLoopz rel s c
  | .loop rel => execLoop rel s c
  | .jcxz rel => execJcxz rel s c
  | .inImm w port => execInImm w port s c
  | .outImm w port => execOutImm w port s c
  | .callRel rel => execCallRel rel s c
  | .jmpRel rel => execJmpRel rel s c
  | .jmpFar off seg => execJmpFar off seg s c
  | .jmpShort rel => execJmpShort rel s c
  | .inDx w => execInDx w s c
  | .outDx w => execOutDx w s c
  | .lock rest => execUnder (c.push .lock) rest s
  | .repne rest => execUnder (c.push .repne) rest s
  | .rep rest => execUnder (c.push .rep) rest s
  | .hlt => execHlt s c
  | .cmc => execCmc s c
  | .testRm8Imm8 rm imm => execTestRm8Imm8 rm imm s c
  | .testRm16Imm16 rm imm => execTestRm16Imm16 rm imm s c
  | .notRm w rm => execNotRm w rm s c
  | .negRm w rm => execNegRm w rm s c
  | .mulRm w rm => execMulRm w rm s c
  | .imulRm w rm => execImulRm w rm s c
  | .divRm w rm => execDivRm w rm s c
  | .idivRm w rm => execIdivRm w rm s c
  | .clc => execClc s c
  | .stc => execStc s c
  | .cli => execCli s c
  | .sti => execSti s c
  | .cld => execCld s c
  | .std => execStd s c
  | .incRm w rm => execIncRm w rm s c
  | .decRm w rm => execDecRm w rm s c
  | .callRm rm => execCallRm rm s c
  | .callFarRm rm => execCallFarRm rm s c
  | .jmpRm rm => execJmpRm rm s c
  | .jmpFarRm rm => execJmpFarRm rm s c
  | .pushRm rm => execPushRm rm s c

/-- 26: the ES: override in front of a whole instruction (R101, R117). -/
def execSegEs (rest : Instr) (s : State) : Out := execUnder (Ctx.plain.push (.seg .es)) rest s

/-- 2E: the CS: override in front of a whole instruction (R101, R117). -/
def execSegCs (rest : Instr) (s : State) : Out := execUnder (Ctx.plain.push (.seg .cs)) rest s

/-- 36: the SS: override in front of a whole instruction (R101, R117). -/
def execSegSs (rest : Instr) (s : State) : Out := execUnder (Ctx.plain.push (.seg .ss)) rest s

/-- 3E: the DS: override in front of a whole instruction (R101, R117). -/
def execSegDs (rest : Instr) (s : State) : Out := execUnder (Ctx.plain.push (.seg .ds)) rest s

/-- F0: the LOCK prefix in front of a whole instruction (R419). -/
def execLock (rest : Instr) (s : State) : Out := execUnder (Ctx.plain.push .lock) rest s

/-- F2: the REPNE prefix in front of a whole instruction (R348). -/
def execRepne (rest : Instr) (s : State) : Out := execUnder (Ctx.plain.push .repne) rest s

/-- F3: the REP / REPE prefix in front of a whole instruction (R348). -/
def execRep (rest : Instr) (s : State) : Out := execUnder (Ctx.plain.push .rep) rest s

end Sys2Proof.Machine
end

