-- ==== Sys2Proof/Machine/Dispatch.lean ====
section
/-! DEFINITION. The meaning of every instruction: one arm per constructor of Instr, one direct call each. -/

namespace Sys2Proof.Machine

def exec (i : Instr) (s : State) : Host.Outcome State Fault Refusal :=
  match i with
  | .addRmReg d w reg rm => Sys2Proof.Machine.execAddRmReg d w reg rm s
  | .addAl imm => Sys2Proof.Machine.execAddAl imm s
  | .addAx imm => Sys2Proof.Machine.execAddAx imm s
  | .addRm8Imm8 rm imm => Sys2Proof.Machine.execAddRm8Imm8 rm imm s
  | .addRm16Imm16 rm imm => Sys2Proof.Machine.execAddRm16Imm16 rm imm s
  | .addRm8Imm8Alt rm imm => Sys2Proof.Machine.execAddRm8Imm8Alt rm imm s
  | .addRm16Imm8 rm imm => Sys2Proof.Machine.execAddRm16Imm8 rm imm s
  | .orRmReg d w reg rm => Sys2Proof.Machine.execOrRmReg d w reg rm s
  | .orAl imm => Sys2Proof.Machine.execOrAl imm s
  | .orAx imm => Sys2Proof.Machine.execOrAx imm s
  | .orRm8Imm8 rm imm => Sys2Proof.Machine.execOrRm8Imm8 rm imm s
  | .orRm16Imm16 rm imm => Sys2Proof.Machine.execOrRm16Imm16 rm imm s
  | .orRm8Imm8Alt rm imm => Sys2Proof.Machine.execOrRm8Imm8Alt rm imm s
  | .orRm16Imm8 rm imm => Sys2Proof.Machine.execOrRm16Imm8 rm imm s
  | .adcRmReg d w reg rm => Sys2Proof.Machine.execAdcRmReg d w reg rm s
  | .adcAl imm => Sys2Proof.Machine.execAdcAl imm s
  | .adcAx imm => Sys2Proof.Machine.execAdcAx imm s
  | .adcRm8Imm8 rm imm => Sys2Proof.Machine.execAdcRm8Imm8 rm imm s
  | .adcRm16Imm16 rm imm => Sys2Proof.Machine.execAdcRm16Imm16 rm imm s
  | .adcRm8Imm8Alt rm imm => Sys2Proof.Machine.execAdcRm8Imm8Alt rm imm s
  | .adcRm16Imm8 rm imm => Sys2Proof.Machine.execAdcRm16Imm8 rm imm s
  | .sbbRmReg d w reg rm => Sys2Proof.Machine.execSbbRmReg d w reg rm s
  | .sbbAl imm => Sys2Proof.Machine.execSbbAl imm s
  | .sbbAx imm => Sys2Proof.Machine.execSbbAx imm s
  | .sbbRm8Imm8 rm imm => Sys2Proof.Machine.execSbbRm8Imm8 rm imm s
  | .sbbRm16Imm16 rm imm => Sys2Proof.Machine.execSbbRm16Imm16 rm imm s
  | .sbbRm8Imm8Alt rm imm => Sys2Proof.Machine.execSbbRm8Imm8Alt rm imm s
  | .sbbRm16Imm8 rm imm => Sys2Proof.Machine.execSbbRm16Imm8 rm imm s
  | .andRmReg d w reg rm => Sys2Proof.Machine.execAndRmReg d w reg rm s
  | .andAl imm => Sys2Proof.Machine.execAndAl imm s
  | .andAx imm => Sys2Proof.Machine.execAndAx imm s
  | .andRm8Imm8 rm imm => Sys2Proof.Machine.execAndRm8Imm8 rm imm s
  | .andRm16Imm16 rm imm => Sys2Proof.Machine.execAndRm16Imm16 rm imm s
  | .andRm8Imm8Alt rm imm => Sys2Proof.Machine.execAndRm8Imm8Alt rm imm s
  | .andRm16Imm8 rm imm => Sys2Proof.Machine.execAndRm16Imm8 rm imm s
  | .subRmReg d w reg rm => Sys2Proof.Machine.execSubRmReg d w reg rm s
  | .subAl imm => Sys2Proof.Machine.execSubAl imm s
  | .subAx imm => Sys2Proof.Machine.execSubAx imm s
  | .subRm8Imm8 rm imm => Sys2Proof.Machine.execSubRm8Imm8 rm imm s
  | .subRm16Imm16 rm imm => Sys2Proof.Machine.execSubRm16Imm16 rm imm s
  | .subRm8Imm8Alt rm imm => Sys2Proof.Machine.execSubRm8Imm8Alt rm imm s
  | .subRm16Imm8 rm imm => Sys2Proof.Machine.execSubRm16Imm8 rm imm s
  | .xorRmReg d w reg rm => Sys2Proof.Machine.execXorRmReg d w reg rm s
  | .xorAl imm => Sys2Proof.Machine.execXorAl imm s
  | .xorAx imm => Sys2Proof.Machine.execXorAx imm s
  | .xorRm8Imm8 rm imm => Sys2Proof.Machine.execXorRm8Imm8 rm imm s
  | .xorRm16Imm16 rm imm => Sys2Proof.Machine.execXorRm16Imm16 rm imm s
  | .xorRm8Imm8Alt rm imm => Sys2Proof.Machine.execXorRm8Imm8Alt rm imm s
  | .xorRm16Imm8 rm imm => Sys2Proof.Machine.execXorRm16Imm8 rm imm s
  | .cmpRmReg d w reg rm => Sys2Proof.Machine.execCmpRmReg d w reg rm s
  | .cmpAl imm => Sys2Proof.Machine.execCmpAl imm s
  | .cmpAx imm => Sys2Proof.Machine.execCmpAx imm s
  | .cmpRm8Imm8 rm imm => Sys2Proof.Machine.execCmpRm8Imm8 rm imm s
  | .cmpRm16Imm16 rm imm => Sys2Proof.Machine.execCmpRm16Imm16 rm imm s
  | .cmpRm8Imm8Alt rm imm => Sys2Proof.Machine.execCmpRm8Imm8Alt rm imm s
  | .cmpRm16Imm8 rm imm => Sys2Proof.Machine.execCmpRm16Imm8 rm imm s
  | .pushEs => Sys2Proof.Machine.execPushEs s
  | .pushCs => Sys2Proof.Machine.execPushCs s
  | .pushSs => Sys2Proof.Machine.execPushSs s
  | .pushDs => Sys2Proof.Machine.execPushDs s
  | .popEs => Sys2Proof.Machine.execPopEs s
  | .popSs => Sys2Proof.Machine.execPopSs s
  | .popDs => Sys2Proof.Machine.execPopDs s
  | .segEs rest => Sys2Proof.Machine.execSegEs rest s
  | .segCs rest => Sys2Proof.Machine.execSegCs rest s
  | .segSs rest => Sys2Proof.Machine.execSegSs rest s
  | .segDs rest => Sys2Proof.Machine.execSegDs rest s
  | .daa => Sys2Proof.Machine.execDaa s
  | .das => Sys2Proof.Machine.execDas s
  | .aaa => Sys2Proof.Machine.execAaa s
  | .aas => Sys2Proof.Machine.execAas s
  | .incReg r => Sys2Proof.Machine.execIncReg r s
  | .decReg r => Sys2Proof.Machine.execDecReg r s
  | .pushReg r => Sys2Proof.Machine.execPushReg r s
  | .popReg r => Sys2Proof.Machine.execPopReg r s
  | .jo rel => Sys2Proof.Machine.execJo rel s
  | .jno rel => Sys2Proof.Machine.execJno rel s
  | .jb rel => Sys2Proof.Machine.execJb rel s
  | .jnb rel => Sys2Proof.Machine.execJnb rel s
  | .jz rel => Sys2Proof.Machine.execJz rel s
  | .jnz rel => Sys2Proof.Machine.execJnz rel s
  | .jbe rel => Sys2Proof.Machine.execJbe rel s
  | .jnbe rel => Sys2Proof.Machine.execJnbe rel s
  | .js rel => Sys2Proof.Machine.execJs rel s
  | .jns rel => Sys2Proof.Machine.execJns rel s
  | .jp rel => Sys2Proof.Machine.execJp rel s
  | .jnp rel => Sys2Proof.Machine.execJnp rel s
  | .jl rel => Sys2Proof.Machine.execJl rel s
  | .jnl rel => Sys2Proof.Machine.execJnl rel s
  | .jle rel => Sys2Proof.Machine.execJle rel s
  | .jnle rel => Sys2Proof.Machine.execJnle rel s
  | .testRmReg w reg rm => Sys2Proof.Machine.execTestRmReg w reg rm s
  | .xchgRmReg w reg rm => Sys2Proof.Machine.execXchgRmReg w reg rm s
  | .movRmReg d w reg rm => Sys2Proof.Machine.execMovRmReg d w reg rm s
  | .movRmSreg sr rm => Sys2Proof.Machine.execMovRmSreg sr rm s
  | .lea reg rm => Sys2Proof.Machine.execLea reg rm s
  | .movSregRm sr rm => Sys2Proof.Machine.execMovSregRm sr rm s
  | .popRm rm => Sys2Proof.Machine.execPopRm rm s
  | .nop => Sys2Proof.Machine.execNop s
  | .xchgAxCx => Sys2Proof.Machine.execXchgAxCx s
  | .xchgAxDx => Sys2Proof.Machine.execXchgAxDx s
  | .xchgAxBx => Sys2Proof.Machine.execXchgAxBx s
  | .xchgAxSp => Sys2Proof.Machine.execXchgAxSp s
  | .xchgAxBp => Sys2Proof.Machine.execXchgAxBp s
  | .xchgAxSi => Sys2Proof.Machine.execXchgAxSi s
  | .xchgAxDi => Sys2Proof.Machine.execXchgAxDi s
  | .cbw => Sys2Proof.Machine.execCbw s
  | .cwd => Sys2Proof.Machine.execCwd s
  | .callFar off seg => Sys2Proof.Machine.execCallFar off seg s
  | .wait => Sys2Proof.Machine.execWait s
  | .pushf => Sys2Proof.Machine.execPushf s
  | .popf => Sys2Proof.Machine.execPopf s
  | .sahf => Sys2Proof.Machine.execSahf s
  | .lahf => Sys2Proof.Machine.execLahf s
  | .movAccMoffs w off => Sys2Proof.Machine.execMovAccMoffs w off s
  | .movMoffsAcc w off => Sys2Proof.Machine.execMovMoffsAcc w off s
  | .movs w => Sys2Proof.Machine.execMovs w s
  | .cmps w => Sys2Proof.Machine.execCmps w s
  | .testAl imm => Sys2Proof.Machine.execTestAl imm s
  | .testAx imm => Sys2Proof.Machine.execTestAx imm s
  | .stos w => Sys2Proof.Machine.execStos w s
  | .lods w => Sys2Proof.Machine.execLods w s
  | .scas w => Sys2Proof.Machine.execScas w s
  | .movReg8Imm r imm => Sys2Proof.Machine.execMovReg8Imm r imm s
  | .movReg16Imm r imm => Sys2Proof.Machine.execMovReg16Imm r imm s
  | .retImm imm => Sys2Proof.Machine.execRetImm imm s
  | .ret => Sys2Proof.Machine.execRet s
  | .les reg rm => Sys2Proof.Machine.execLes reg rm s
  | .lds reg rm => Sys2Proof.Machine.execLds reg rm s
  | .movRm8Imm8 rm imm => Sys2Proof.Machine.execMovRm8Imm8 rm imm s
  | .movRm16Imm16 rm imm => Sys2Proof.Machine.execMovRm16Imm16 rm imm s
  | .retfImm imm => Sys2Proof.Machine.execRetfImm imm s
  | .retf => Sys2Proof.Machine.execRetf s
  | .int3 => Sys2Proof.Machine.execInt3 s
  | .intImm imm => Sys2Proof.Machine.execIntImm imm s
  | .into => Sys2Proof.Machine.execInto s
  | .iret => Sys2Proof.Machine.execIret s
  | .rolRm v w rm => Sys2Proof.Machine.execRolRm v w rm s
  | .rorRm v w rm => Sys2Proof.Machine.execRorRm v w rm s
  | .rclRm v w rm => Sys2Proof.Machine.execRclRm v w rm s
  | .rcrRm v w rm => Sys2Proof.Machine.execRcrRm v w rm s
  | .shlRm v w rm => Sys2Proof.Machine.execShlRm v w rm s
  | .shrRm v w rm => Sys2Proof.Machine.execShrRm v w rm s
  | .sarRm v w rm => Sys2Proof.Machine.execSarRm v w rm s
  | .aam imm => Sys2Proof.Machine.execAam imm s
  | .aad imm => Sys2Proof.Machine.execAad imm s
  | .xlat => Sys2Proof.Machine.execXlat s
  | .esc hi lo rm => Sys2Proof.Machine.execEsc hi lo rm s
  | .loopnz rel => Sys2Proof.Machine.execLoopnz rel s
  | .loopz rel => Sys2Proof.Machine.execLoopz rel s
  | .loop rel => Sys2Proof.Machine.execLoop rel s
  | .jcxz rel => Sys2Proof.Machine.execJcxz rel s
  | .inImm w port => Sys2Proof.Machine.execInImm w port s
  | .outImm w port => Sys2Proof.Machine.execOutImm w port s
  | .callRel rel => Sys2Proof.Machine.execCallRel rel s
  | .jmpRel rel => Sys2Proof.Machine.execJmpRel rel s
  | .jmpFar off seg => Sys2Proof.Machine.execJmpFar off seg s
  | .jmpShort rel => Sys2Proof.Machine.execJmpShort rel s
  | .inDx w => Sys2Proof.Machine.execInDx w s
  | .outDx w => Sys2Proof.Machine.execOutDx w s
  | .lock rest => Sys2Proof.Machine.execLock rest s
  | .repne rest => Sys2Proof.Machine.execRepne rest s
  | .rep rest => Sys2Proof.Machine.execRep rest s
  | .hlt => Sys2Proof.Machine.execHlt s
  | .cmc => Sys2Proof.Machine.execCmc s
  | .testRm8Imm8 rm imm => Sys2Proof.Machine.execTestRm8Imm8 rm imm s
  | .testRm16Imm16 rm imm => Sys2Proof.Machine.execTestRm16Imm16 rm imm s
  | .notRm w rm => Sys2Proof.Machine.execNotRm w rm s
  | .negRm w rm => Sys2Proof.Machine.execNegRm w rm s
  | .mulRm w rm => Sys2Proof.Machine.execMulRm w rm s
  | .imulRm w rm => Sys2Proof.Machine.execImulRm w rm s
  | .divRm w rm => Sys2Proof.Machine.execDivRm w rm s
  | .idivRm w rm => Sys2Proof.Machine.execIdivRm w rm s
  | .clc => Sys2Proof.Machine.execClc s
  | .stc => Sys2Proof.Machine.execStc s
  | .cli => Sys2Proof.Machine.execCli s
  | .sti => Sys2Proof.Machine.execSti s
  | .cld => Sys2Proof.Machine.execCld s
  | .std => Sys2Proof.Machine.execStd s
  | .incRm w rm => Sys2Proof.Machine.execIncRm w rm s
  | .decRm w rm => Sys2Proof.Machine.execDecRm w rm s
  | .callRm rm => Sys2Proof.Machine.execCallRm rm s
  | .callFarRm rm => Sys2Proof.Machine.execCallFarRm rm s
  | .jmpRm rm => Sys2Proof.Machine.execJmpRm rm s
  | .jmpFarRm rm => Sys2Proof.Machine.execJmpFarRm rm s
  | .pushRm rm => Sys2Proof.Machine.execPushRm rm s

end Sys2Proof.Machine
end

