-- ==== Sys2Proof/Machine/Fetch.lean ====
section
/-! DEFINITION. Instruction fetch (R78 of 20_memory.md, R129 of 30_encoding.md): the bytes from phys(CS, IP) upward, and
what the step does when they hold no instruction (R126, R127, R103). -/

namespace Sys2Proof.Machine

/-- The number of bytes of memory, which bounds a run of prefixes (R60, R103). -/
def memSize : Nat := 0x100000

/-- The longest instruction without prefixes (R100). -/
def maxBodyLen : Nat := 6

/-- `n` bytes from a physical address upward, modulo 2^20 (R78). -/
def Memory.bytes (m : Memory) : Nat → PAddr → List Byte
  | 0, _ => []
  | n + 1, a => m.byteAt a :: m.bytes n (a + 1)

/-- The bytes the decoder looks at: a run of at most `n` prefix bytes, then as many as the longest instruction without
prefixes has. With `n` prefix bytes and no opcode among them the list holds those bytes only. -/
def Memory.fetch (m : Memory) : Nat → PAddr → List Byte
  | 0, _ => []
  | n + 1, a =>
    match prefixOf (m.byteAt a) with
    | some _ => m.byteAt a :: m.fetch n (a + 1)
    | none => m.bytes maxBodyLen a

/-- Decode at `P0 = phys(CS, IP)` (R556). -/
def State.fetchInstr (s : State) : DecodeResult := decode (s.mem.fetch memSize (phys s.cs s.ip))

/-- What a step does when no instruction was decoded (R126, R127, R503). The list of fetched bytes ends early only when
all 2^20 bytes of memory are prefix bytes: the step does not complete (R103). -/
def decodeFailure (e : DecodeError) (s : State) : Out :=
  match e with
  | .unknownOpcode op => .next (s.takeFault .unknownOpcode op none)
  | .unresolvableModRM op m => .next (s.takeFault .unresolvableModRM op (some m))
  | .truncated => .fault .prefixHang

end Sys2Proof.Machine
end

