-- ==== Sys2Proof/Machine/HostOps.lean ====
section
/-! DEFINITION. What the host does between steps (70_reset_and_hazards.md): reset with a start address and a seed (R550
to R552), load (R561), and the snapshot (R563). `run`, which repeats the step, is in Machine/Run.lean. -/

namespace Sys2Proof.Machine

/-- The optional seed (R552): a value for any register but CS and IP, and for FLAGS. A value has the register's
width, so masking is its type. -/
structure Seed where
  ax : Option Word
  cx : Option Word
  dx : Option Word
  bx : Option Word
  sp : Option Word
  bp : Option Word
  si : Option Word
  di : Option Word
  es : Option Word
  ss : Option Word
  ds : Option Word
  flags : Option Word
  deriving DecidableEq, Repr

/-- No seed: every register zero (R5). -/
def Seed.empty : Seed := ⟨none, none, none, none, none, none, none, none, none, none, none, none⟩

/-- Reset (R550, R551, R43): registers and FLAGS zero or seeded, CS:IP from the host, Running, no fault record; memory is
untouched, and the I/O interface has no state to reset. -/
def State.start (s : State) (startCS startIP : Word) (seed : Seed) : State :=
  { ax := seed.ax.getD 0
    cx := seed.cx.getD 0
    dx := seed.dx.getD 0
    bx := seed.bx.getD 0
    sp := seed.sp.getD 0
    bp := seed.bp.getD 0
    si := seed.si.getD 0
    di := seed.di.getD 0
    es := seed.es.getD 0
    cs := startCS
    ss := seed.ss.getD 0
    ds := seed.ds.getD 0
    ip := startIP
    flags := seed.flags.getD 0
    run := .running
    fault := none
    mem := s.mem
    io := s.io
    draws := s.draws }

/-- Byte i of a sequence goes to physical `(start + i) & 0xFFFFF` (R561). -/
def Memory.load (m : Memory) (start : PAddr) : List Byte → Memory
  | [] => m
  | b :: bs => (m.setByte start b).load (start + 1) bs

/-- Load a byte sequence at a physical address (R561); nothing but memory changes (R564). -/
def State.load (s : State) (start : PAddr) (bs : List Byte) : State := { s with mem := s.mem.load start bs }

/-- What the host observes (R563): the 13 registers, FLAGS, the run state, the fault record and a range of memory. -/
structure Snapshot where
  ax : Word
  cx : Word
  dx : Word
  bx : Word
  sp : Word
  bp : Word
  si : Word
  di : Word
  es : Word
  cs : Word
  ss : Word
  ds : Word
  ip : Word
  flags : Word
  run : RunState
  fault : Option FaultRecord
  range : List Byte
  deriving DecidableEq, Repr

/-- A range of memory, read in order (R563). -/
def Memory.range (m : Memory) (start : PAddr) : Nat → List Byte
  | 0 => []
  | n + 1 => m.byteAt start :: m.range (start + 1) n

/-- The snapshot with `n` bytes of memory from `start` (R563). It is a value, so observing changes nothing. -/
def State.snapshot (s : State) (start : PAddr) (n : Nat) : Snapshot :=
  { ax := s.ax
    cx := s.cx
    dx := s.dx
    bx := s.bx
    sp := s.sp
    bp := s.bp
    si := s.si
    di := s.di
    es := s.es
    cs := s.cs
    ss := s.ss
    ds := s.ds
    ip := s.ip
    flags := s.flags
    run := s.run
    fault := s.fault
    range := s.mem.range start n }

end Sys2Proof.Machine
end

