-- ==== Sys2Proof/Machine/Step.lean ====
section
/-! DEFINITION. The step (R556 of 70_reset_and_hazards.md), and the load of one instruction where the step fetches. -/

namespace Sys2Proof.Machine

/-- One step (R556): in the Running state decode at phys(CS, IP) and execute; in Halted and Faulted nothing (R40,
R506). The meanings advance IP and enter Halted themselves. -/
def step (s : State) : Host.Outcome State Fault Refusal :=
  match s.run with
  | .running =>
    match s.fetchInstr with
    | .ok (i, _) => exec i s
    | .error e => decodeFailure e s
  | .halted => .next s
  | .faulted => .next s

/-- `s` with an opcode-table word stored where `step` fetches its next instruction, Running with an empty fault record so
that the very next step runs it (log entries 9, 10, 19). -/
def State.withFetchWord (s : State) (nbits w : Nat) : State :=
  { s.load (phys s.cs s.ip) (tableBytes nbits w) with run := .running, fault := none }

end Sys2Proof.Machine
end

