-- ==== Sys2Proof/Machine/Run.lean ====
section
/-! DEFINITION. `run()` of the host (R557 to R559 of 70_reset_and_hazards.md): steps until Halted, Faulted or a stop request,
under fuel. -/

namespace Sys2Proof.Machine

/-- How a run ends (R559). `notEnded` says that the fuel is used up: not an end of the run (log entry 15). -/
inductive RunEnd where
  | halted (s : State)
  | faulted (s : State)
  | stopped (s : State)
  | notEnded (s : State)
  | stuck (r : Fault)
  | refused (r : Refusal)
  deriving DecidableEq, Repr

/-- `run()` (R557, R558): at each step boundary the STOP input is sampled (the list holds its values, one a boundary),
then the run state; otherwise one step. The list is the fuel. -/
def run : List Bool → State → RunEnd
  | [], s => .notEnded s
  | stop :: rest, s =>
    if stop then .stopped s
    else
      match s.run with
      | .halted => .halted s
      | .faulted => .faulted s
      | .running =>
        match step s with
        | .next t => run rest t
        | .fault r => .stuck r
        | .refused r => .refused r

end Sys2Proof.Machine
end

