-- ==== Sys2Proof/Safety.lean ====
section
/-! DEFINITION. What counts as a safe state and a successful run, and the invariant of the machine. -/

namespace Sys2Proof.Machine

/-- No fault has ended the run: "Faulted [is] a final state that is not a successful end of the run" (R506). -/
def State.NotFaulted (s : State) : Prop := s.run ≠ .faulted

/-- The run of a program ends well: "The successful end of a program is Halted" (R559). -/
def RunEnd.Success : RunEnd → Prop
  | .halted _ => True
  | .faulted _ => False
  | .stopped _ => False
  | .notEnded _ => False
  | .stuck _ => False
  | .refused _ => False

/-- The invariant of the machine: memory is in its one canonical form inside the 1 MiB (R60, log entry 3), the fault
record is present exactly in the Faulted state (R41, R43), and it names the instruction at which IP still stands
(R503, R504). -/
structure State.Inv (s : State) : Prop where
  mem_wf : s.mem.wf = true
  record_iff_faulted : s.fault.isSome = true ↔ s.run = .faulted
  record_at_ip : ∀ r, s.fault = some r → r.cs = s.cs ∧ r.ip = s.ip ∧ r.address = phys s.cs s.ip

end Sys2Proof.Machine
end

