-- ==== Sys2Proof/Certificates/Slice0/Obligations.lean ====
section
/-! DEFINITION. The statements for the provers, `Obligations.<Name>`, and the words they are written in
(`Sys2Proof.Claims`). Results are written from the rules' own formulas, not by calling the meanings. -/

namespace Sys2Proof.Claims

open Sys2Proof.Machine

/-! ## How an instruction ends -/

/-- `next` of an instruction with these bytes behind the prefixes `ps` (R27, R121). -/
def after (ps : List Prefix) (bytes : List Byte) (s : State) : Word :=
  s.ip + BitVec.ofNat 16 (ps.length + bytes.length)

/-- `i`, whose encoding is `bytes`, ANSWERS A NEXT STATE behind any prefixes `ps`: `t`, with `IP <- next`. -/
def Goes (ps : List Prefix) (i : Instr) (bytes : List Byte) (s t : State) : Prop :=
  encode i = bytes ∧ exec (i.withPrefixes ps) s = .next { t with ip := after ps bytes s }

/-- `i`, whose encoding is `bytes`, ANSWERS THE NEXT STATE `t` behind any prefixes `ps`: a control transfer. -/
def Jumps (ps : List Prefix) (i : Instr) (bytes : List Byte) (s t : State) : Prop :=
  encode i = bytes ∧ exec (i.withPrefixes ps) s = .next t

/-- The state after a fault (R503, R504): the record and the run state, and nothing else. -/
def faulted (s : State) (cause : FaultCause) (opcode : Byte) (modrm : Option Byte) : State :=
  { s with
    run := .faulted
    fault := some ⟨cause, s.cs, s.ip, phys s.cs s.ip, opcode, modrm⟩ }

/-- An opcode by its w bit (R104). -/
def byW (w : Width) (byte word : Byte) : Byte :=
  match w with
  | .byte => byte
  | .word => word

/-- The last segment override of a run of prefixes (R102). -/
def lastSegment (ps : List Prefix) : Option SReg :=
  (ps.filterMap fun p => match p with | .seg r => some r | _ => none).getLast?

/-- The last repeat prefix of a run (R102): `true` is F3, `false` is F2. -/
def lastRepeat (ps : List Prefix) : Option Bool :=
  (ps.filterMap fun p => match p with | .rep => some true | .repne => some false | _ => none).getLast?

/-- `SEG` of an overridable operand (R116, R117). -/
def segmentOf (ps : List Prefix) (dflt : SReg) (s : State) : Word := s.sreg ((lastSegment ps).getD dflt)

/-- The register or memory location of a ModRM operand, as the meanings compute it; `OperandAddress` says what it is. -/
def place (ps : List Prefix) (rm : RM) (s : State) : Loc := (Ctx.ofPrefixes ps).loc rm s

/-- The two bytes of a word, low then high (R67). -/
def two (v : Word) : List Byte := [v.setWidth 8, (v >>> 8).setWidth 8]

/-- `Push16(v)` (R209). -/
def pushed (s : State) (v : Word) : State :=
  { s with sp := s.sp - 2, mem := s.mem.write .word (phys s.ss (s.sp - 2)) v }

/-- The word `k` bytes above the top of the stack, popped after `k / 2` others (R209). -/
def stackWord (s : State) (k : Word) : Word := s.mem.read .word (phys s.ss (s.sp + k))

/-! ## FLAGS by bit number (R30): CF 0, PF 2, AF 4, ZF 6, SF 7, TF 8, IF 9, DF 10, OF 11 -/

/-- `new` has the bits of `set`; the bits of `free` may hold anything (R38); every other bit of the sixteen is as in
`old`. -/
def FlagsBecome (set : List (Nat × Bool)) (free : List Nat) (old new : Word) : Prop :=
  (∀ p ∈ set, new.getLsbD p.1 = p.2) ∧
    ∀ b, b ∉ set.map Prod.fst → b ∉ free → new.getLsbD b = old.getLsbD b

/-- The number of ones in the low byte is even (R8). -/
def evenParity {n : Nat} (r : BitVec n) : Bool :=
  !(Bool.xor (r.getLsbD 0) (Bool.xor (r.getLsbD 1) (Bool.xor (r.getLsbD 2) (Bool.xor (r.getLsbD 3)
    (Bool.xor (r.getLsbD 4) (Bool.xor (r.getLsbD 5) (Bool.xor (r.getLsbD 6) (r.getLsbD 7))))))))

/-- SF, ZF and PF of a result (R8). -/
def szp {n : Nat} (r : BitVec n) : List (Nat × Bool) :=
  [(7, r.getLsbD (n - 1)), (6, decide (r.toNat = 0)), (2, evenParity r)]

/-- A signed number outside −2^(N−1) .. 2^(N−1)−1. -/
def outOfRange (n : Nat) (x : Int) : Bool := decide (x < -2 ^ (n - 1) ∨ 2 ^ (n - 1) ≤ x)

/-- AF of an addition or a subtraction: bit 4 of a XOR b XOR r (R251, "Equivalent forms"). -/
def auxCarry {n : Nat} (a b r : BitVec n) : Bool := (a ^^^ b ^^^ r).getLsbD 4

/-! ## The two-operand instructions (R250) -/

/-- What a two-operand instruction of width `w`, with destination `dst` and source value `b`, makes of a state, IP
apart. -/
abbrev Effect := (w : Width) → (dst : Loc) → (b : BitVec w.bits) → (s t : State) → Prop

/-- The seven forms of a block of R250: constructors, first opcode, group 1 sub-opcode. -/
structure Forms where
  rmReg : Dir → Width → RegNum → RM → Instr
  al : Byte → Instr
  ax : Word → Instr
  rm8Imm8 : RM → Byte → Instr
  rm16Imm16 : RM → Word → Instr
  rm8Imm8Alt : RM → Byte → Instr
  rm16Imm8 : RM → Byte → Instr
  base : Byte
  sub : RegNum

def addForms : Forms :=
  ⟨.addRmReg, .addAl, .addAx, .addRm8Imm8, .addRm16Imm16, .addRm8Imm8Alt, .addRm16Imm8, 0x00, .r0⟩

def orForms : Forms :=
  ⟨.orRmReg, .orAl, .orAx, .orRm8Imm8, .orRm16Imm16, .orRm8Imm8Alt, .orRm16Imm8, 0x08, .r1⟩

def adcForms : Forms :=
  ⟨.adcRmReg, .adcAl, .adcAx, .adcRm8Imm8, .adcRm16Imm16, .adcRm8Imm8Alt, .adcRm16Imm8, 0x10, .r2⟩

def sbbForms : Forms :=
  ⟨.sbbRmReg, .sbbAl, .sbbAx, .sbbRm8Imm8, .sbbRm16Imm16, .sbbRm8Imm8Alt, .sbbRm16Imm8, 0x18, .r3⟩

def andForms : Forms :=
  ⟨.andRmReg, .andAl, .andAx, .andRm8Imm8, .andRm16Imm16, .andRm8Imm8Alt, .andRm16Imm8, 0x20, .r4⟩

def subForms : Forms :=
  ⟨.subRmReg, .subAl, .subAx, .subRm8Imm8, .subRm16Imm16, .subRm8Imm8Alt, .subRm16Imm8, 0x28, .r5⟩

def xorForms : Forms :=
  ⟨.xorRmReg, .xorAl, .xorAx, .xorRm8Imm8, .xorRm16Imm16, .xorRm8Imm8Alt, .xorRm16Imm8, 0x30, .r6⟩

def cmpForms : Forms :=
  ⟨.cmpRmReg, .cmpAl, .cmpAx, .cmpRm8Imm8, .cmpRm16Imm16, .cmpRm8Imm8Alt, .cmpRm16Imm8, 0x38, .r7⟩

/-- Every form of the block, on any operands, answers a next state with the effect `eff` (R250). -/
def Forms.Have (F : Forms) (eff : Effect) : Prop :=
  ∀ (ps : List Prefix) (s : State),
    (∀ w reg rm, ∃ t, Goes ps (F.rmReg .toRM w reg rm) (byW w F.base (F.base + 1) :: encodeModRM reg rm) s t ∧
      eff w (place ps rm s) (s.reg w reg) s t) ∧
    (∀ w reg rm, ∃ t, Goes ps (F.rmReg .toReg w reg rm) (byW w (F.base + 2) (F.base + 3) :: encodeModRM reg rm) s t ∧
      eff w (.reg reg) (s.readLoc w (place ps rm s)) s t) ∧
    (∀ imm, ∃ t, Goes ps (F.al imm) [F.base + 4, imm] s t ∧ eff .byte (.reg .r0) imm s t) ∧
    (∀ imm, ∃ t, Goes ps (F.ax imm) ((F.base + 5) :: two imm) s t ∧ eff .word (.reg .r0) imm s t) ∧
    (∀ rm imm, ∃ t, Goes ps (F.rm8Imm8 rm imm) (0x80 :: encodeModRM F.sub rm ++ [imm]) s t ∧
      eff .byte (place ps rm s) imm s t) ∧
    (∀ rm imm, ∃ t, Goes ps (F.rm16Imm16 rm imm) (0x81 :: encodeModRM F.sub rm ++ two imm) s t ∧
      eff .word (place ps rm s) imm s t) ∧
    (∀ rm imm, ∃ t, Goes ps (F.rm8Imm8Alt rm imm) (0x82 :: encodeModRM F.sub rm ++ [imm]) s t ∧
      eff .byte (place ps rm s) imm s t) ∧
    (∀ rm imm, ∃ t, Goes ps (F.rm16Imm8 rm imm) (0x83 :: encodeModRM F.sub rm ++ [imm]) s t ∧
      eff .word (place ps rm s) (imm.signExtend 16) s t)

/-- `dst <- AddFlags(N, a, b, c)`, with the carry in read from the state before (R251 to R253). -/
def addsInto (carry : State → Bool) : Effect := fun w dst b s t =>
  let a := s.readLoc w dst
  let c := (carry s).toNat
  let r := a + b + BitVec.ofNat w.bits c
  ∃ fl, t = { s.writeLoc w dst r with flags := fl } ∧
    FlagsBecome
      ([(0, decide (2 ^ w.bits ≤ a.toNat + b.toNat + c)), (4, auxCarry a b r),
        (11, outOfRange w.bits (a.toInt + b.toInt + c))] ++ szp r) [] s.flags fl

/-- The flags of `SubFlags(N, a, b, c)` (R251). -/
def SubFlagsAre {n : Nat} (a b : BitVec n) (c : Nat) (old new : Word) : Prop :=
  let r := a - b - BitVec.ofNat n c
  FlagsBecome
    ([(0, decide (a.toNat < b.toNat + c)), (4, auxCarry a b r), (11, outOfRange n (a.toInt - b.toInt - c))] ++ szp r)
    [] old new

/-- `dst <- SubFlags(N, a, b, c)`, with the borrow in read from the state before (R251, R254, R255). -/
def subtractsFrom (carry : State → Bool) : Effect := fun w dst b s t =>
  let a := s.readLoc w dst
  let c := (carry s).toNat
  ∃ fl, t = { s.writeLoc w dst (a - b - BitVec.ofNat w.bits c) with flags := fl } ∧ SubFlagsAre a b c s.flags fl

/-- `SubFlags(N, a, b, 0)`; "the result is discarded" (R256). -/
def compares : Effect := fun w dst b s t =>
  ∃ fl, t = { s with flags := fl } ∧ SubFlagsAre (s.readLoc w dst) b 0 s.flags fl

/-- The flags of `LogicFlags(N, r)` (R300): AF is free, and so is the model's counter of free values. -/
def LogicFlagsAre {n : Nat} (r : BitVec n) (old new : Word) : Prop :=
  FlagsBecome ([(0, false), (11, false)] ++ szp r) [4] old new

/-- `r = a op b; LogicFlags(N, r); dst <- r` (R301 to R303). -/
def combines (op : {n : Nat} → BitVec n → BitVec n → BitVec n) : Effect := fun w dst b s t =>
  let r := op (s.readLoc w dst) b
  ∃ fl n, t = { s.writeLoc w dst r with flags := fl, draws := n } ∧ LogicFlagsAre r s.flags fl

/-- `r = a AND b; LogicFlags(N, r)`; nothing is written (R304). -/
def tests : Effect := fun w dst b s t =>
  ∃ fl n, t = { s with flags := fl, draws := n } ∧ LogicFlagsAre (s.readLoc w dst &&& b) s.flags fl

/-! ## Shifts and rotates (R306) -/

/-- The count: 1, or all eight bits of CL (R306). -/
def shiftCountOf (v : Count) (s : State) : Nat :=
  match v with
  | .one => 1
  | .cl => s.cx.toNat % 256

/-- The opcode of group 2: D0, D1 by 1, D2, D3 by CL (R306). -/
def shiftOpcode (v : Count) (w : Width) : Byte :=
  match v with
  | .one => byW w 0xD0 0xD1
  | .cl => byW w 0xD2 0xD3

/-- What a member of the family computes from the count, the old CF and the operand: the value, the CF after a count of
at least 1, and the OF after a count of exactly 1. -/
structure ShiftRule where
  value : {n : Nat} → Nat → Bool → BitVec n → BitVec n
  carry : {n : Nat} → Nat → Bool → BitVec n → Bool
  overflow : {n : Nat} → Bool → BitVec n → Bool

/-- A shift or rotate answers a next state (R306): a count of 0 changes nothing; otherwise the operand becomes the value,
CF and for a shift SF ZF PF are set, OF for a count of 1; AF of a shift and OF of a longer count are free. -/
def Shifts (ctor : Count → Width → RM → Instr) (sub : RegNum) (isShift : Bool) (R : ShiftRule) : Prop :=
  ∀ (ps : List Prefix) (s : State) (v : Count) (w : Width) (rm : RM),
    let c := shiftCountOf v s
    let l := place ps rm s
    let a := s.readLoc w l
    let cf := s.flags.getLsbD 0
    let r := R.value c cf a
    (c = 0 → Goes ps (ctor v w rm) (shiftOpcode v w :: encodeModRM sub rm) s s) ∧
    (c ≠ 0 → ∃ fl n,
      Goes ps (ctor v w rm) (shiftOpcode v w :: encodeModRM sub rm) s { s.writeLoc w l r with flags := fl, draws := n } ∧
      FlagsBecome
        ((0, R.carry c cf a) :: (if isShift then szp r else []) ++ (if c = 1 then [(11, R.overflow cf a)] else []))
        ((if isShift then [4] else []) ++ (if c = 1 then [] else [11])) s.flags fl)

/-- SHL: the bits leave at the top (R307). -/
def shlRule : ShiftRule where
  value c _ a := a <<< c
  carry {n} c _ a := decide (c ≤ n) && a.getLsbD (n - c)
  overflow {n} _ a := Bool.xor (a.getLsbD (n - 1)) (a.getLsbD (n - 2))

/-- SHR: "zero enters at the top" (R308). -/
def shrRule : ShiftRule where
  value c _ a := a >>> c
  carry c _ a := a.getLsbD (c - 1)
  overflow {n} _ a := a.getLsbD (n - 1)

/-- SAR: "the sign bit is kept" (R309). -/
def sarRule : ShiftRule where
  value c _ a := a.sshiftRight c
  carry c _ a := (a.sshiftRight (c - 1)).getLsbD 0
  overflow _ _ := false

/-- ROL (R310): CF is the bit that arrived at the bottom. -/
def rolRule : ShiftRule where
  value c _ a := a.rotateLeft c
  carry c _ a := (a.rotateLeft c).getLsbD 0
  overflow {n} _ a := Bool.xor (a.getLsbD (n - 1)) (a.getLsbD (n - 2))

/-- ROR (R311): CF is the bit that arrived at the top. -/
def rorRule : ShiftRule where
  value c _ a := a.rotateRight c
  carry {n} c _ a := (a.rotateRight c).getLsbD (n - 1)
  overflow {n} _ a := Bool.xor (a.getLsbD 0) (a.getLsbD (n - 1))

/-- RCL: "a rotation of the N+1 bits CF ++ v" (R312). -/
def rclRule : ShiftRule where
  value {n} c cf a := ((BitVec.cons cf a).rotateLeft c).setWidth n
  carry {n} c cf a := ((BitVec.cons cf a).rotateLeft c).getLsbD n
  overflow {n} _ a := Bool.xor (a.getLsbD (n - 1)) (a.getLsbD (n - 2))

/-- RCR: the same rotation the other way; OF is "the original CF XOR the original top bit" (R313). -/
def rcrRule : ShiftRule where
  value {n} c cf a := ((BitVec.cons cf a).rotateRight c).setWidth n
  carry {n} c cf a := ((BitVec.cons cf a).rotateRight c).getLsbD n
  overflow {n} cf a := Bool.xor cf (a.getLsbD (n - 1))

/-! ## String instructions (R340 to R348) -/

/-- `delta` (R341). -/
def delta (w : Width) (s : State) : Word :=
  match w, s.flags.getLsbD 10 with
  | .byte, false => 1
  | .byte, true => 0xFFFF
  | .word, false => 2
  | .word, true => 0xFFFE

/-- The source element, at `(srcseg, SI)` (R342). -/
def sourceElement (ps : List Prefix) (w : Width) (s : State) : BitVec w.bits :=
  s.mem.read w (phys (segmentOf ps .ds s) s.si)

/-- The destination element, at `(ES, DI)` (R342). -/
def destElement (w : Width) (s : State) : BitVec w.bits := s.mem.read w (phys s.es s.di)

/-- One repetition of a string instruction takes `s` to `t` (R343 to R347). -/
def OneRepetition (op : StringOp) (ps : List Prefix) (w : Width) (s t : State) : Prop :=
  match op with
  | .movs =>
    t = { s with
      mem := s.mem.write w (phys s.es s.di) (sourceElement ps w s), si := s.si + delta w s, di := s.di + delta w s }
  | .lods => t = { s.setReg w .r0 (sourceElement ps w s) with si := s.si + delta w s }
  | .cmps =>
    ∃ fl, t = { s with flags := fl, si := s.si + delta w s, di := s.di + delta w s } ∧
      SubFlagsAre (sourceElement ps w s) (destElement w s) 0 s.flags fl
  | .scas =>
    ∃ fl, t = { s with flags := fl, di := s.di + delta w s } ∧
      SubFlagsAre (s.reg w .r0) (destElement w s) 0 s.flags fl
  | .stos => t = { s with mem := s.mem.write w (phys s.es s.di) (s.reg w .r0), di := s.di + delta w s }

/-- The instruction and its opcode (R343 to R347). -/
def stringInstr (op : StringOp) (w : Width) : Instr × Byte :=
  match op with
  | .movs => (.movs w, byW w 0xA4 0xA5)
  | .cmps => (.cmps w, byW w 0xA6 0xA7)
  | .stos => (.stos w, byW w 0xAA 0xAB)
  | .lods => (.lods w, byW w 0xAC 0xAD)
  | .scas => (.scas w, byW w 0xAE 0xAF)

/-- "if rep == REPE and ZF == 0: break; if rep == REPNE and ZF == 1: break", for CMPS and SCAS only (R348). -/
def Breaks (op : StringOp) (repe : Bool) (t : State) : Prop :=
  (op = .cmps ∨ op = .scas) ∧ t.flags.getLsbD 6 = !repe

/-- The loop of R348 runs from `s` through `l`, the states after each repetition with its CX decrement: it goes on exactly
while CX is not 0 and the comparison does not break. -/
def LoopRuns (op : StringOp) (ps : List Prefix) (w : Width) (repe : Bool) : State → List State → Prop
  | s, [] => s.cx = 0
  | s, t :: l =>
    s.cx ≠ 0 ∧ (∃ u, OneRepetition op ps w s u ∧ t = { u with cx := u.cx - 1 }) ∧
      ((Breaks op repe t ∧ l = []) ∨ (¬ Breaks op repe t ∧ LoopRuns op ps w repe t l))

/-! ## What an instruction may change -/

/-- The registers by their separately written parts: the eight halves and the other 16-bit registers (R20 to R23,
R28). -/
inductive RegPart where
  | half (r : RegNum)
  | sp
  | bp
  | si
  | di
  | seg (r : SReg)
  deriving DecidableEq, Repr

/-- The value of a part, extended to 16 bits. -/
def RegPart.get (p : RegPart) (s : State) : Word :=
  match p with
  | .half r => (s.reg8 r).setWidth 16
  | .sp => s.sp
  | .bp => s.bp
  | .si => s.si
  | .di => s.di
  | .seg r => s.sreg r

/-- The parts of a register operand (R22). -/
def regParts (w : Width) (r : RegNum) : List RegPart :=
  match w with
  | .byte => [.half r]
  | .word =>
    match r with
    | .r0 => [.half .r0, .half .r4]
    | .r1 => [.half .r1, .half .r5]
    | .r2 => [.half .r2, .half .r6]
    | .r3 => [.half .r3, .half .r7]
    | .r4 => [.sp]
    | .r5 => [.bp]
    | .r6 => [.si]
    | .r7 => [.di]

/-- The parts of a ModRM destination: none when it is memory. -/
def rmParts (w : Width) (rm : RM) : List RegPart :=
  match rm with
  | .reg r => regParts w r
  | .direct _ => []
  | .mem _ _ => []

/-- The destination of the forms r/m, reg and reg, r/m (R250). -/
def dirParts (d : Dir) (w : Width) (reg : RegNum) (rm : RM) : List RegPart :=
  match d with
  | .toRM => rmParts w rm
  | .toReg => regParts w reg

/-- The register parts the rule of an instruction without prefixes writes: its destination, and the registers it updates besides (SP of the stack
instructions, SI DI CX of the string instructions, CX of the LOOP family, the implicit AX and DX of R24). An instruction
that is not listed writes none. -/
def written : Instr → List RegPart
  | .addRmReg d w reg rm | .orRmReg d w reg rm | .adcRmReg d w reg rm | .sbbRmReg d w reg rm | .andRmReg d w reg rm
  | .subRmReg d w reg rm | .xorRmReg d w reg rm | .movRmReg d w reg rm => dirParts d w reg rm
  | .addAl _ | .orAl _ | .adcAl _ | .sbbAl _ | .andAl _ | .subAl _ | .xorAl _ => [.half .r0]
  | .addAx _ | .orAx _ | .adcAx _ | .sbbAx _ | .andAx _ | .subAx _ | .xorAx _ => regParts .word .r0
  | .addRm8Imm8 rm _ | .orRm8Imm8 rm _ | .adcRm8Imm8 rm _ | .sbbRm8Imm8 rm _ | .andRm8Imm8 rm _ | .subRm8Imm8 rm _
  | .xorRm8Imm8 rm _ | .addRm8Imm8Alt rm _ | .orRm8Imm8Alt rm _ | .adcRm8Imm8Alt rm _ | .sbbRm8Imm8Alt rm _
  | .andRm8Imm8Alt rm _ | .subRm8Imm8Alt rm _ | .xorRm8Imm8Alt rm _ | .movRm8Imm8 rm _ => rmParts .byte rm
  | .addRm16Imm16 rm _ | .orRm16Imm16 rm _ | .adcRm16Imm16 rm _ | .sbbRm16Imm16 rm _ | .andRm16Imm16 rm _
  | .subRm16Imm16 rm _ | .xorRm16Imm16 rm _ | .addRm16Imm8 rm _ | .orRm16Imm8 rm _ | .adcRm16Imm8 rm _
  | .sbbRm16Imm8 rm _ | .andRm16Imm8 rm _ | .subRm16Imm8 rm _ | .xorRm16Imm8 rm _ | .movRm16Imm16 rm _
  | .movRmSreg _ rm => rmParts .word rm
  | .incRm w rm | .decRm w rm | .negRm w rm | .notRm w rm | .rolRm _ w rm | .rorRm _ w rm | .rclRm _ w rm
  | .rcrRm _ w rm | .shlRm _ w rm | .shrRm _ w rm | .sarRm _ w rm => rmParts w rm
  | .incReg r | .decReg r | .lea r _ | .movReg16Imm r _ => regParts .word r
  | .movReg8Imm r _ => [.half r]
  | .movAccMoffs w _ | .inImm w _ | .inDx w => regParts w .r0
  | .movSregRm sr _ => [.seg sr]
  | .pushEs | .pushCs | .pushSs | .pushDs | .pushReg _ | .pushRm _ | .pushf | .popf | .callRel _ | .callRm _
  | .ret | .retImm _ => [.sp]
  | .popEs => [.sp, .seg .es]
  | .popSs => [.sp, .seg .ss]
  | .popDs => [.sp, .seg .ds]
  | .popReg r => .sp :: regParts .word r
  | .popRm rm => .sp :: rmParts .word rm
  | .xchgAxCx => regParts .word .r0 ++ regParts .word .r1
  | .xchgAxDx => regParts .word .r0 ++ regParts .word .r2
  | .xchgAxBx => regParts .word .r0 ++ regParts .word .r3
  | .xchgAxSp => regParts .word .r0 ++ regParts .word .r4
  | .xchgAxBp => regParts .word .r0 ++ regParts .word .r5
  | .xchgAxSi => regParts .word .r0 ++ regParts .word .r6
  | .xchgAxDi => regParts .word .r0 ++ regParts .word .r7
  | .xchgRmReg w reg rm => regParts w reg ++ rmParts w rm
  | .les r _ => .seg .es :: regParts .word r
  | .lds r _ => .seg .ds :: regParts .word r
  | .lahf | .cbw => [.half .r4]
  | .cwd => regParts .word .r2
  | .xlat | .daa | .das => [.half .r0]
  | .aaa | .aas | .aam _ | .aad _ => regParts .word .r0
  | .mulRm w _ | .imulRm w _ | .divRm w _ | .idivRm w _ =>
    match w with
    | .byte => regParts .word .r0
    | .word => regParts .word .r0 ++ regParts .word .r2
  | .movs _ | .cmps _ => [.si, .di] ++ regParts .word .r1
  | .scas _ | .stos _ => .di :: regParts .word .r1
  | .lods w => .si :: (regParts w .r0 ++ regParts .word .r1)
  | .loop _ | .loopz _ | .loopnz _ => regParts .word .r1
  | .jmpFar _ _ | .jmpFarRm _ => [.seg .cs]
  | .callFar _ _ | .callFarRm _ | .retf | .retfImm _ | .int3 | .intImm _ | .into | .iret => [.sp, .seg .cs]
  | _ => []

/-- The FLAGS bits an instruction without prefixes may write, as the table of R33 has them (row "every other instruction": none). -/
def flagBits (s : State) : Instr → List Nat
  | .addRmReg .. | .addAl _ | .addAx _ | .addRm8Imm8 .. | .addRm16Imm16 .. | .addRm8Imm8Alt .. | .addRm16Imm8 ..
  | .adcRmReg .. | .adcAl _ | .adcAx _ | .adcRm8Imm8 .. | .adcRm16Imm16 .. | .adcRm8Imm8Alt .. | .adcRm16Imm8 ..
  | .subRmReg .. | .subAl _ | .subAx _ | .subRm8Imm8 .. | .subRm16Imm16 .. | .subRm8Imm8Alt .. | .subRm16Imm8 ..
  | .sbbRmReg .. | .sbbAl _ | .sbbAx _ | .sbbRm8Imm8 .. | .sbbRm16Imm16 .. | .sbbRm8Imm8Alt .. | .sbbRm16Imm8 ..
  | .cmpRmReg .. | .cmpAl _ | .cmpAx _ | .cmpRm8Imm8 .. | .cmpRm16Imm16 .. | .cmpRm8Imm8Alt .. | .cmpRm16Imm8 ..
  | .negRm .. | .cmps _ | .scas _ => [11, 7, 6, 4, 2, 0]
  | .incReg _ | .incRm .. | .decReg _ | .decRm .. => [11, 7, 6, 4, 2]
  | .andRmReg .. | .andAl _ | .andAx _ | .andRm8Imm8 .. | .andRm16Imm16 .. | .andRm8Imm8Alt .. | .andRm16Imm8 ..
  | .orRmReg .. | .orAl _ | .orAx _ | .orRm8Imm8 .. | .orRm16Imm16 .. | .orRm8Imm8Alt .. | .orRm16Imm8 ..
  | .xorRmReg .. | .xorAl _ | .xorAx _ | .xorRm8Imm8 .. | .xorRm16Imm16 .. | .xorRm8Imm8Alt .. | .xorRm16Imm8 ..
  | .testRmReg .. | .testAl _ | .testAx _ | .testRm8Imm8 .. | .testRm16Imm16 .. => [11, 7, 6, 4, 2, 0]
  | .shlRm v _ _ | .shrRm v _ _ | .sarRm v _ _ => if shiftCountOf v s = 0 then [] else [11, 7, 6, 4, 2, 0]
  | .rolRm v _ _ | .rorRm v _ _ | .rclRm v _ _ | .rcrRm v _ _ => if shiftCountOf v s = 0 then [] else [11, 0]
  | .mulRm .. | .imulRm .. | .divRm .. | .idivRm .. | .aaa | .aas | .daa | .das | .aam _ | .aad _ =>
    [11, 7, 6, 4, 2, 0]
  | .sahf => [7, 6, 4, 2, 0]
  | .popf | .iret => [11, 10, 9, 8, 7, 6, 4, 2, 0]
  | .int3 | .intImm _ => [9, 8]
  | .into => if s.flags.getLsbD 11 then [9, 8] else []
  | .clc | .stc | .cmc => [0]
  | .cld | .std => [10]
  | .cli | .sti => [9]
  | _ => []

/-- The bytes an access of a width touches (R64). -/
def touched (w : Width) (a : PAddr) : List PAddr :=
  match w with
  | .byte => [a]
  | .word => [a, a + 1]

/-- The bytes of a memory location; a register has none. -/
def locBytes (w : Width) (l : Loc) : List PAddr :=
  match l with
  | .reg _ => []
  | .mem seg off => touched w (phys seg off)

/-- The bytes of `k` stack slots below SP (R209). -/
def slots (k : Nat) (s : State) : List PAddr :=
  (List.range k).flatMap fun j => touched .word (phys s.ss (s.sp - BitVec.ofNat 16 (2 * (j + 1))))

/-- The destination bytes of a string instruction: one element, or CX elements under a repeat prefix (R341, R348). -/
def stringBytes (ps : List Prefix) (w : Width) (s : State) : List PAddr :=
  (List.range (if (lastRepeat ps).isSome then s.cx.toNat else 1)).flatMap fun j =>
    touched w (phys s.es (s.di + BitVec.ofNat 16 j * delta w s))

/-- The bytes of memory an instruction behind the prefixes `ps` stores to. An instruction that is not listed stores
nothing. -/
def stored (ps : List Prefix) (s : State) : Instr → List PAddr
  | .addRmReg .toRM w _ rm | .orRmReg .toRM w _ rm | .adcRmReg .toRM w _ rm | .sbbRmReg .toRM w _ rm
  | .andRmReg .toRM w _ rm | .subRmReg .toRM w _ rm | .xorRmReg .toRM w _ rm | .movRmReg .toRM w _ rm
  | .xchgRmReg w _ rm => locBytes w (place ps rm s)
  | .addRm8Imm8 rm _ | .orRm8Imm8 rm _ | .adcRm8Imm8 rm _ | .sbbRm8Imm8 rm _ | .andRm8Imm8 rm _ | .subRm8Imm8 rm _
  | .xorRm8Imm8 rm _ | .addRm8Imm8Alt rm _ | .orRm8Imm8Alt rm _ | .adcRm8Imm8Alt rm _ | .sbbRm8Imm8Alt rm _
  | .andRm8Imm8Alt rm _ | .subRm8Imm8Alt rm _ | .xorRm8Imm8Alt rm _ | .movRm8Imm8 rm _ =>
    locBytes .byte (place ps rm s)
  | .addRm16Imm16 rm _ | .orRm16Imm16 rm _ | .adcRm16Imm16 rm _ | .sbbRm16Imm16 rm _ | .andRm16Imm16 rm _
  | .subRm16Imm16 rm _ | .xorRm16Imm16 rm _ | .addRm16Imm8 rm _ | .orRm16Imm8 rm _ | .adcRm16Imm8 rm _
  | .sbbRm16Imm8 rm _ | .andRm16Imm8 rm _ | .subRm16Imm8 rm _ | .xorRm16Imm8 rm _ | .movRm16Imm16 rm _
  | .movRmSreg _ rm | .popRm rm => locBytes .word (place ps rm s)
  | .incRm w rm | .decRm w rm | .negRm w rm | .notRm w rm => locBytes w (place ps rm s)
  | .rolRm v w rm | .rorRm v w rm | .rclRm v w rm | .rcrRm v w rm | .shlRm v w rm | .shrRm v w rm | .sarRm v w rm =>
    if shiftCountOf v s = 0 then [] else locBytes w (place ps rm s)
  | .movMoffsAcc w off => touched w (phys (segmentOf ps .ds s) off)
  | .pushEs | .pushCs | .pushSs | .pushDs | .pushReg _ | .pushRm _ | .pushf | .callRel _ | .callRm _ => slots 1 s
  | .callFar _ _ => slots 2 s
  | .callFarRm rm => if rm.isMem then slots 2 s else []
  | .int3 | .intImm _ => slots 3 s
  | .into => if s.flags.getLsbD 11 then slots 3 s else []
  | .movs w | .stos w => stringBytes ps w s
  | _ => []

/-- The control transfers, which set IP themselves (R370). -/
def transfers : Instr → Bool
  | .callRel _ | .callRm _ | .callFar _ _ | .callFarRm _ | .jmpShort _ | .jmpRel _ | .jmpRm _ | .jmpFar _ _
  | .jmpFarRm _ | .ret | .retImm _ | .retf | .retfImm _ | .jo _ | .jno _ | .jb _ | .jnb _ | .jz _ | .jnz _ | .jbe _
  | .jnbe _ | .js _ | .jns _ | .jp _ | .jnp _ | .jl _ | .jnl _ | .jle _ | .jnle _ | .loop _ | .loopz _ | .loopnz _
  | .jcxz _ | .intImm _ | .int3 | .into | .iret => true
  | _ => false

/-- IN and OUT, the only instructions that reach the I/O space (R81). -/
def usesPorts : Instr → Bool
  | .inImm _ _ | .inDx _ | .outImm _ _ | .outDx _ => true
  | _ => false

/-- The string instructions, the only ones a repeat prefix affects (R102). -/
def isString : Instr → Bool
  | .movs _ | .cmps _ | .stos _ | .lods _ | .scas _ => true
  | _ => false

/-- The instructions with an overridable memory operand (R117). -/
def overridable (i : Instr) : Bool :=
  match i with
  | .lea _ _ => false
  | .esc _ _ _ => false
  | .movAccMoffs _ _ | .movMoffsAcc _ _ | .xlat | .movs _ | .cmps _ | .lods _ => true
  | _ =>
    match i.rm? with
    | some rm => rm.isMem
    | none => false

/-- PUSHF and the instructions that push FLAGS, the only ones that read IF and TF (R35). -/
def readsControlFlags (s : State) : Instr → Bool
  | .pushf | .intImm _ | .int3 => true
  | .into => s.flags.getLsbD 11
  | _ => false

/-! ## Encodings -/

/-- The opcode bytes absent from the dispatch table (R126). -/
def absentOpcodes : List Byte :=
  [0x0F, 0x60, 0x61, 0x62, 0x63, 0x64, 0x65, 0x66, 0x67, 0x68, 0x69, 0x6A, 0x6B, 0x6C, 0x6D, 0x6E, 0x6F,
    0xC0, 0xC1, 0xC8, 0xC9, 0xD6, 0xF1]

/-- The opcode and ModRM combinations of R127. -/
def Unresolvable (op m : Byte) : Prop :=
  let mod := m.toNat / 64
  let reg := m.toNat / 8 % 8
  (op.toNat ∈ [0xD0, 0xD1, 0xD2, 0xD3] ∧ reg = 6) ∨ (op.toNat ∈ [0xF6, 0xF7] ∧ reg = 1) ∨
    (op.toNat = 0xFE ∧ 2 ≤ reg) ∨ (op.toNat = 0xFF ∧ reg = 7) ∨ (op.toNat ∈ [0x8F, 0xC6, 0xC7] ∧ 1 ≤ reg) ∨
    (op.toNat ∈ [0x8C, 0x8E] ∧ 4 ≤ reg) ∨ (op.toNat ∈ [0x8D, 0xC4, 0xC5] ∧ mod = 3) ∨
    (op.toNat = 0xFF ∧ (reg = 3 ∨ reg = 5) ∧ mod = 3)

/-- The prefix bytes `ps` lie at CS:IP (R78, R101). -/
def PrefixesAt (s : State) (ps : List Prefix) : Prop :=
  ∀ k p, ps[k]? = some p → s.mem.byteAt (phys s.cs s.ip + BitVec.ofNat 20 k) = p.byte

/-- A 3-bit field as a register number, in table order (R22). -/
def regTable : List RegNum := [.r0, .r1, .r2, .r3, .r4, .r5, .r6, .r7]

/-- The base/index expressions, in rm order (R109). -/
def baseTable : List Base := [.bxsi, .bxdi, .bpsi, .bpdi, .si, .di, .bp, .bx]

end Sys2Proof.Claims

section

open Sys2Proof Sys2Proof.Machine Sys2Proof.Claims

/-! ## Encoding and decoding -/

/-- Words written out from the spec's encodings and examples decode to the instructions they stand for. -/
def Obligations.SpecWordsDecode : Prop :=
  decode [0x89, 0xD8] = .ok (.movRmReg .toRM .word .r3 (.reg .r0), []) ∧
  decode [0xC7, 0x06, 0x00, 0x02, 0xCD, 0xAB] = .ok (.movRm16Imm16 (.direct 0x0200) 0xABCD, []) ∧
  decode [0x8D, 0x40, 0x05] = .ok (.lea .r0 (.mem .bxsi (.d8 5)), []) ∧
  decode [0x01, 0xD8] = .ok (.addRmReg .toRM .word .r3 (.reg .r0), []) ∧
  decode [0xF6, 0xF3] = .ok (.divRm .byte (.reg .r3), []) ∧
  decode [0xD2, 0xE1] = .ok (.shlRm .cl .byte (.reg .r1), []) ∧
  decode [0x24, 0x0F] = .ok (.andAl 0x0F, []) ∧
  decode [0xF3, 0xAA] = .ok (.rep (.stos .byte), []) ∧
  decode [0x9A, 0x00, 0x02, 0x00, 0x30] = .ok (.callFar 0x0200 0x3000, []) ∧
  decode [0x74, 0xFE] = .ok (.jz 0xFE, []) ∧
  decode [0xCD, 0x21] = .ok (.intImm 0x21, []) ∧
  decode [0xF0, 0x87, 0x07] = .ok (.lock (.xchgRmReg .word .r0 (.mem .bx .none)), []) ∧
  decode [0xD9, 0x06, 0x00, 0x01] = .ok (.esc .r1 .r0 (.direct 0x0100), []) ∧
  decode [0xF4] = .ok (.hlt, [])

/-- Decoding the encoding of any instruction that has one gives the instruction back, with every operand, whatever
follows it in memory (R100, R124, R125, R129). -/
def Obligations.DecodeOfEncode : Prop :=
  ∀ (i : Instr) (rest : List Byte), i.operandsOk = true → decode (encode i ++ rest) = .ok (i, rest)

/-- What decodes is the encoding of the instruction decoded: no two byte sequences mean the same term, no bit is
dropped, and a decoded instruction has operands its encoding has (R128, R129). -/
def Obligations.EncodeOfDecode : Prop :=
  ∀ (bs rest : List Byte) (i : Instr), decode bs = .ok (i, rest) → bs = encode i ++ rest ∧ i.operandsOk = true

/-- The ModRM byte by its bits (R106 to R111), shown for MOV r16, r/m16, 8B: the reg field selects the destination, mod and
rm the operand, a displacement follows for mod 01, 10 and for the direct address. -/
def Obligations.ModRMByteFields : Prop :=
  ∀ m lo hi : Byte,
    let mod := m.toNat / 64
    let reg := regTable.getD (m.toNat / 8 % 8) .r0
    let rm := m.toNat % 8
    let base := baseTable.getD rm .bx
    decode [0x8B, m, lo, hi] =
      if mod = 3 then .ok (.movRmReg .toReg .word reg (.reg (regTable.getD rm .r0)), [lo, hi])
      else if mod = 0 ∧ rm = 6 then .ok (.movRmReg .toReg .word reg (.direct (hi ++ lo)), [])
      else if mod = 0 then .ok (.movRmReg .toReg .word reg (.mem base .none), [lo, hi])
      else if mod = 1 then .ok (.movRmReg .toReg .word reg (.mem base (.d8 lo)), [hi])
      else .ok (.movRmReg .toReg .word reg (.mem base (.d16 (hi ++ lo))), [])

/-- An absent opcode byte, after zero or more prefixes, faults with UnknownOpcode; there are 23, and the decoder gives
this cause for no other byte (R126). The bound on the prefixes is that of R103. -/
def Obligations.UnknownOpcodeFaults : Prop :=
  (∀ (s : State) (ps : List Prefix) (op : Byte),
    s.run = .running → ps.length < 0x100000 → PrefixesAt s ps →
    s.mem.byteAt (phys s.cs s.ip + BitVec.ofNat 20 ps.length) = op → op ∈ absentOpcodes →
    step s = .next (faulted s .unknownOpcode op none)) ∧
  absentOpcodes.length = 23 ∧ absentOpcodes.Nodup ∧
  ∀ (bs : List Byte) (op : Byte), decode bs = .error (.unknownOpcode op) → op ∈ absentOpcodes

/-- A ModRM combination of the list of R127 faults with UnresolvableModRM, and the decoder gives this cause for no other
(R127). -/
def Obligations.UnresolvableModRMFaults : Prop :=
  (∀ (s : State) (ps : List Prefix) (op m : Byte),
    s.run = .running → ps.length < 0x100000 → PrefixesAt s ps →
    s.mem.byteAt (phys s.cs s.ip + BitVec.ofNat 20 ps.length) = op →
    s.mem.byteAt (phys s.cs s.ip + BitVec.ofNat 20 (ps.length + 1)) = m → Unresolvable op m →
    step s = .next (faulted s .unresolvableModRM op (some m))) ∧
  ∀ (bs : List Byte) (op m : Byte), decode bs = .error (.unresolvableModRM op m) → Unresolvable op m

/-! ## The step and the run -/

/-- A step in the Running state runs the instruction whose bytes lie at CS:IP, linearly in physical memory (R78, R556), and
adds nothing around it; in the Halted and Faulted states it does nothing (R40, R506). -/
def Obligations.StepRunsDecodedInstruction : Prop :=
  (∀ (i : Instr) (s : State),
    i.wf = true → s.run = .running →
    (∀ k b, (encode i)[k]? = some b → s.mem.byteAt (phys s.cs s.ip + BitVec.ofNat 20 k) = b) →
    step s = exec i s) ∧
  ∀ s : State, s.run ≠ .running → step s = .next s

/-- A step has no result exactly when the core is Running and every byte of memory is a prefix byte (R103); a step never
refuses an instruction. -/
def Obligations.StepHangsOnlyOnPrefixMemory : Prop :=
  (∀ (s : State) (r : Fault),
    step s = .fault r ↔
      r = .prefixHang ∧ s.run = .running ∧
        ∀ a, s.mem.byteAt a ∈ [0x26, 0x2E, 0x36, 0x3E, 0xF0, 0xF2, (0xF3 : Byte)]) ∧
  ∀ (s : State) (r : Refusal), step s ≠ .refused r

/-- Every step keeps the invariant: memory canonical, the fault record present exactly in the Faulted state and naming the
instruction IP stands at (R41, R503, R504). The canonical form is the model's (log entry 3). -/
def Obligations.StepKeepsInvariant : Prop := ∀ s t : State, s.Inv → step s = .next t → t.Inv

/-- The model's reset state has the invariant, and so has every start and load from canonical memory; the reset state is
the start with the model's CS:IP and no seed (log entries 1, 2, 3, 6). -/
def Obligations.ResetHasInvariant : Prop :=
  State.reset.Inv ∧
  State.reset = State.reset.start Config.startCS Config.startIP Seed.empty ∧
  (∀ (s : State) (cs ip : Word) (seed : Seed), s.mem.wf = true → (s.start cs ip seed).Inv) ∧
  ∀ (s : State) (a : PAddr) (bs : List Byte), s.Inv → (s.load a bs).Inv

/-- Reset from any state: zero or the seed in every register but CS and IP and in all 16 bits of FLAGS, the host's CS and
IP, Running, no fault record, memory untouched (R43, R550, R551, R552). -/
def Obligations.StartSetsRegisters : Prop :=
  ∀ (s : State) (cs ip : Word) (seed : Seed),
    let t := s.start cs ip seed
    t.ax = seed.ax.getD 0 ∧ t.cx = seed.cx.getD 0 ∧ t.dx = seed.dx.getD 0 ∧ t.bx = seed.bx.getD 0 ∧
    t.sp = seed.sp.getD 0 ∧ t.bp = seed.bp.getD 0 ∧ t.si = seed.si.getD 0 ∧ t.di = seed.di.getD 0 ∧
    t.es = seed.es.getD 0 ∧ t.ss = seed.ss.getD 0 ∧ t.ds = seed.ds.getD 0 ∧ t.flags = seed.flags.getD 0 ∧
    t.cs = cs ∧ t.ip = ip ∧ t.run = .running ∧ t.fault = none ∧ t.mem = s.mem

/-- A load puts byte i of the sequence at `(start + i) & 0xFFFFF` and changes nothing else (R561). -/
def Obligations.LoadWritesTheBytes : Prop :=
  ∀ (s : State) (start : PAddr) (bs : List Byte), bs.length ≤ 0x100000 →
    (∀ k b, bs[k]? = some b → (s.load start bs).mem.byteAt (start + BitVec.ofNat 20 k) = b) ∧
    (∀ a, (∀ k, k < bs.length → a ≠ start + BitVec.ofNat 20 k) → (s.load start bs).mem.byteAt a = s.mem.byteAt a) ∧
    ({ s.load start bs with mem := s.mem } : State) = s

/-- A run looks at STOP, then at the run state, at each step boundary (R557, R558); it ends Halted only in the Halted state
and Faulted only in the Faulted state, and from a Running state without a stop it is its first step and then the rest. -/
def Obligations.RunEndsAtTerminalStates : Prop :=
  (∀ (s : State) (stops : List Bool), run (true :: stops) s = .stopped s) ∧
  (∀ (s : State) (stops : List Bool), s.run = .halted → run (false :: stops) s = .halted s) ∧
  (∀ (s : State) (stops : List Bool), s.run = .faulted → run (false :: stops) s = .faulted s) ∧
  (∀ (s t : State) (stops : List Bool), s.run = .running → step s = .next t →
    run (false :: stops) s = run stops t) ∧
  (∀ (s t : State) (stops : List Bool), run stops s = .halted t → t.run = .halted) ∧
  (∀ (s t : State) (stops : List Bool), run stops s = .faulted t → t.run = .faulted) ∧
  ∀ (s : State) (stops : List Bool) (r : Refusal), run stops s ≠ .refused r

/-! ## What every instruction leaves alone -/

/-- FLAGS bits 1, 3, 5, 12, 13, 14, 15 are written by no instruction and by no step, so they keep their reset value for
the whole run (R34). -/
def Obligations.ReservedFlagBitsKept : Prop :=
  (∀ (i : Instr) (s t : State) (b : Nat), b ∈ [1, 3, 5, 12, 13, 14, 15] → exec i s = .next t →
    t.flags.getLsbD b = s.flags.getLsbD b) ∧
  ∀ (s t : State) (b : Nat), b ∈ [1, 3, 5, 12, 13, 14, 15] → step s = .next t →
    t.flags.getLsbD b = s.flags.getLsbD b

/-- FLAGS frame, over all instructions: a bit that the table of R33 does not give to the instruction is unchanged. -/
def Obligations.FlagFrame : Prop :=
  ∀ (i : Instr) (s t : State) (b : Nat), exec i s = .next t → b ∉ flagBits s i.body →
    t.flags.getLsbD b = s.flags.getLsbD b

/-- Register frame, over all instructions: a half, an index register or a segment register that is not among the written
ones holds what it held; a half keeps its value when its sibling is written (R23, R25). -/
def Obligations.RegisterFrame : Prop :=
  ∀ (i : Instr) (s t : State) (p : RegPart), exec i s = .next t → p ∉ written i.body → p.get t = p.get s

/-- Memory frame, over all instructions behind any prefixes: every byte outside the bytes the instruction stores to reads
as before, the addresses computed with the functions the meanings use (R64, R81, R115, R209, R342). -/
def Obligations.MemoryFrame : Prop :=
  ∀ (ps : List Prefix) (i : Instr) (s t : State) (a : PAddr), i.prefixes = [] →
    exec (i.withPrefixes ps) s = .next t → a ∉ stored ps s i → t.mem.byteAt a = s.mem.byteAt a

/-- The I/O history is extended by IN and OUT alone, by one event (R80, R81). -/
def Obligations.PortFrame : Prop :=
  ∀ (i : Instr) (s t : State), exec i s = .next t →
    (usesPorts i.body = false → t.io = s.io) ∧
    (usesPorts i.body = true → ∃ e, t.io = s.io ++ [e])

/-- IP advance (R27, R121): an instruction that is no control transfer and does not fault leaves IP at the next
instruction, its prefixes counted, modulo 2^16; CS changes only by a move to CS. -/
def Obligations.IpAdvance : Prop :=
  ∀ (i : Instr) (s t : State), exec i s = .next t → s.run = .running → t.run ≠ .faulted →
    transfers i.body = false →
    t.ip = s.ip + BitVec.ofNat 16 (encode i).length ∧ (RegPart.seg .cs ∉ written i.body → t.cs = s.cs)

/-- The run state (R40): every instruction answers a next state in every state; from Running it becomes Halted exactly by
HLT and Faulted only by DIV, IDIV, AAM or a malformed term (log entry 13), and only then is a fault record written. -/
def Obligations.RunStateTransitions : Prop :=
  (∀ (i : Instr) (s : State), ∃ t, exec i s = .next t) ∧
  ∀ (i : Instr) (s t : State), exec i s = .next t → s.run = .running →
    (t.run = .halted ↔ i.body = .hlt) ∧
    (t.run = .faulted →
      (∃ w rm, i.body = .divRm w rm) ∨ (∃ w rm, i.body = .idivRm w rm) ∨ (∃ imm, i.body = .aam imm) ∨
        i.operandsOk = false) ∧
    (t.run ≠ .faulted → t.fault = s.fault)

/-- Faults are precise (R503, R504): a step that ends Faulted changes the run state and the record and nothing else, IP
still at the first byte; the record names CS:IP, the physical address, the opcode byte after the prefixes and for
UnresolvableModRM the ModRM byte; PreconditionViolation is never the cause (R509). -/
def Obligations.FaultsArePrecise : Prop :=
  ∀ s t : State, step s = .next t → s.run = .running → t.run = .faulted →
    ∃ (ps : List Prefix) (cause : FaultCause) (op : Byte) (m : Option Byte),
      t = faulted s cause op m ∧ cause ≠ .preconditionViolation ∧ PrefixesAt s ps ∧
      op = s.mem.byteAt (phys s.cs s.ip + BitVec.ofNat 20 ps.length) ∧ prefixOf op = none ∧
      m = if cause = .unresolvableModRM then
          some (s.mem.byteAt (phys s.cs s.ip + BitVec.ofNat 20 (ps.length + 1))) else none

/-- IF and TF gate nothing (R35): but for PUSHF, INT, INT3 and a taken INTO, an instruction run with any other IF and TF
does the same, in all of State but those two bits. -/
def Obligations.ControlFlagsGateNothing : Prop :=
  ∀ (i : Instr) (s t : State) (fl : Word), readsControlFlags s i.body = false →
    (∀ b, b ≠ 8 → b ≠ 9 → fl.getLsbD b = s.flags.getLsbD b) → exec i s = .next t →
    ∃ fl', exec i { s with flags := fl } = .next { t with flags := fl' } ∧
      ∀ b, b ≠ 8 → b ≠ 9 → fl'.getLsbD b = t.flags.getLsbD b

/-! ## The shared operations -/

/-- Physical addresses and memory accesses (R62, R63, R64): the address formula with its wrap-around, read after write at
either width, the little-endian byte order, the word that straddles 0xFFFFF. -/
def Obligations.MemoryAccess : Prop :=
  (∀ seg off : Word, (phys seg off).toNat = (seg.toNat * 16 + off.toNat) % 0x100000) ∧
  (∀ (m : Memory) (a x : PAddr) (v : Byte),
    (m.write .byte a v).byteAt x = if x = a then v else m.byteAt x) ∧
  (∀ (m : Memory) (a : PAddr), m.read .byte a = m.byteAt a) ∧
  (∀ (m : Memory) (a : PAddr),
    (m.read .word a).toNat = (m.byteAt a).toNat + 0x100 * (m.byteAt (a + 1)).toNat) ∧
  (∀ (m : Memory) (a x : PAddr) (v : Word),
    (m.write .word a v).byteAt x =
      if x = a then v.setWidth 8 else if x = a + 1 then (v >>> 8).setWidth 8 else m.byteAt x) ∧
  (0xFFFFF : PAddr) + 1 = 0

/-- The register tables and the half registers (R20, R22, R23): `AX = AH ++ AL`; a byte register is one half, the sibling
unchanged by a write; a word register is the whole. -/
def Obligations.RegisterAccess : Prop :=
  ∀ s : State,
    (s.ax = s.reg .byte .r4 ++ s.reg .byte .r0 ∧ s.cx = s.reg .byte .r5 ++ s.reg .byte .r1 ∧
      s.dx = s.reg .byte .r6 ++ s.reg .byte .r2 ∧ s.bx = s.reg .byte .r7 ++ s.reg .byte .r3) ∧
    ([s.reg .word .r0, s.reg .word .r1, s.reg .word .r2, s.reg .word .r3, s.reg .word .r4, s.reg .word .r5,
        s.reg .word .r6, s.reg .word .r7] = [s.ax, s.cx, s.dx, s.bx, s.sp, s.bp, s.si, s.di]) ∧
    (∀ v : Byte,
      s.setReg .byte .r0 v = { s with ax := (s.ax &&& 0xFF00) ||| v.setWidth 16 } ∧
      s.setReg .byte .r1 v = { s with cx := (s.cx &&& 0xFF00) ||| v.setWidth 16 } ∧
      s.setReg .byte .r2 v = { s with dx := (s.dx &&& 0xFF00) ||| v.setWidth 16 } ∧
      s.setReg .byte .r3 v = { s with bx := (s.bx &&& 0xFF00) ||| v.setWidth 16 } ∧
      s.setReg .byte .r4 v = { s with ax := (s.ax &&& 0x00FF) ||| (v.setWidth 16 <<< 8) } ∧
      s.setReg .byte .r5 v = { s with cx := (s.cx &&& 0x00FF) ||| (v.setWidth 16 <<< 8) } ∧
      s.setReg .byte .r6 v = { s with dx := (s.dx &&& 0x00FF) ||| (v.setWidth 16 <<< 8) } ∧
      s.setReg .byte .r7 v = { s with bx := (s.bx &&& 0x00FF) ||| (v.setWidth 16 <<< 8) }) ∧
    ∀ v : Word,
      s.setReg .word .r0 v = { s with ax := v } ∧ s.setReg .word .r1 v = { s with cx := v } ∧
      s.setReg .word .r2 v = { s with dx := v } ∧ s.setReg .word .r3 v = { s with bx := v } ∧
      s.setReg .word .r4 v = { s with sp := v } ∧ s.setReg .word .r5 v = { s with bp := v } ∧
      s.setReg .word .r6 v = { s with si := v } ∧ s.setReg .word .r7 v = { s with di := v }

/-- Single-flag access (R30, R31, R37): the bit of each of the nine flags, setting and clearing one bit by its mask, and
that a write reads back and disturbs no other bit. -/
def Obligations.FlagAccess : Prop :=
  ([Flag.cf, .pf, .af, .zf, .sf, .tf, .intf, .df, .of].map Flag.mask =
    [0x0001, 0x0004, 0x0010, 0x0040, 0x0080, 0x0100, 0x0200, 0x0400, 0x0800]) ∧
  ∀ (fl : Word) (f : Flag) (v : Bool),
    setFlag fl f true = fl ||| f.mask ∧ setFlag fl f false = fl &&& ~~~f.mask ∧
    (getFlag fl f = true ↔ fl &&& f.mask ≠ 0) ∧
    getFlag (setFlag fl f v) f = v ∧ (∀ g, g ≠ f → getFlag (setFlag fl f v) g = getFlag fl g) ∧
    ∀ b, b ≠ f.bit → (setFlag fl f v).getLsbD b = fl.getLsbD b

/-- Effective address and segment of every ModRM form under any prefixes, and what is read and written there (R112 to R117):
the sum modulo 2^16, SS for the expressions with BP and DS otherwise, replaced by the last override. The clause for BP
also covers BP without a displacement, a term no ModRM form has (R109): that it acts as BP + 0 is the model's choice
(log entry 13). -/
def Obligations.OperandAddress : Prop :=
  ∀ (ps : List Prefix) (s : State) (w : Width) (v : BitVec w.bits),
    let disp : Disp → Word := fun d => match d with | .none => 0 | .d8 b => b.signExtend 16 | .d16 x => x
    let ds := segmentOf ps .ds s
    let ss := segmentOf ps .ss s
    (∀ r, s.readLoc w (place ps (.reg r) s) = s.reg w r ∧ s.writeLoc w (place ps (.reg r) s) v = s.setReg w r v) ∧
    (∀ rm sg off, place ps rm s = .mem sg off →
      s.readLoc w (place ps rm s) = s.mem.read w (phys sg off) ∧
      s.writeLoc w (place ps rm s) v = { s with mem := s.mem.write w (phys sg off) v }) ∧
    (∀ a, place ps (.direct a) s = .mem ds a) ∧
    (∀ d, place ps (.mem .bxsi d) s = .mem ds (s.bx + s.si + disp d)) ∧
    (∀ d, place ps (.mem .bxdi d) s = .mem ds (s.bx + s.di + disp d)) ∧
    (∀ d, place ps (.mem .bpsi d) s = .mem ss (s.bp + s.si + disp d)) ∧
    (∀ d, place ps (.mem .bpdi d) s = .mem ss (s.bp + s.di + disp d)) ∧
    (∀ d, place ps (.mem .si d) s = .mem ds (s.si + disp d)) ∧
    (∀ d, place ps (.mem .di d) s = .mem ds (s.di + disp d)) ∧
    (∀ d, place ps (.mem .bp d) s = .mem ss (s.bp + disp d)) ∧
    (∀ d, place ps (.mem .bx d) s = .mem ds (s.bx + disp d))

/-! ## Prefixes -/

/-- Prefixes act through the last segment override, the last repeat prefix and their number alone (R102): order, repetition
and LOCK do not matter; a repeat prefix does not matter to an instruction that is no string instruction, an override not to
one without an overridable memory operand (R117). -/
def Obligations.PrefixesActThroughTheLast : Prop :=
  ∀ (ps qs : List Prefix) (i : Instr) (s : State), i.prefixes = [] → ps.length = qs.length →
    (isString i = true → lastRepeat ps = lastRepeat qs) →
    (overridable i = true → lastSegment ps = lastSegment qs) →
    exec (i.withPrefixes ps) s = exec (i.withPrefixes qs) s

/-- A prefix that does not apply to the instruction behind it adds 1 to its length and does nothing else (R101, R102,
R419): LOCK before anything, a repeat prefix before a non-string opcode, an override before an instruction without an
overridable operand; shown for every instruction that is no control transfer and does not fault. -/
def Obligations.IneffectivePrefixAddsItsLength : Prop :=
  ∀ (i : Instr) (s t : State), exec i s = .next t → s.run = .running → t.run ≠ .faulted →
    transfers i.body = false →
    exec (.lock i) s = .next { t with ip := t.ip + 1 } ∧
    (isString i.body = false →
      exec (.rep i) s = .next { t with ip := t.ip + 1 } ∧ exec (.repne i) s = .next { t with ip := t.ip + 1 }) ∧
    (overridable i.body = false →
      exec (.segEs i) s = .next { t with ip := t.ip + 1 } ∧ exec (.segCs i) s = .next { t with ip := t.ip + 1 } ∧
      exec (.segSs i) s = .next { t with ip := t.ip + 1 } ∧ exec (.segDs i) s = .next { t with ip := t.ip + 1 })

/-- The seven prefix bytes and what each does (R101): an override replaces DS in XLAT, LOCK XCHG is XCHG, REP STOS and REPNE
SCAS with CX = 0 repeat no time and leave every flag. -/
def Obligations.PrefixRowsComplete : Prop :=
  ∀ s : State,
    let at' : Word → State := fun sg =>
      { s.setReg .byte .r0 (s.mem.byteAt (phys sg (s.bx + (s.reg .byte .r0).setWidth 16))) with ip := s.ip + 2 }
    (encode (.segEs .xlat) = [0x26, 0xD7] ∧ exec (.segEs .xlat) s = .next (at' s.es)) ∧
    (encode (.segCs .xlat) = [0x2E, 0xD7] ∧ exec (.segCs .xlat) s = .next (at' s.cs)) ∧
    (encode (.segSs .xlat) = [0x36, 0xD7] ∧ exec (.segSs .xlat) s = .next (at' s.ss)) ∧
    (encode (.segDs .xlat) = [0x3E, 0xD7] ∧ exec (.segDs .xlat) s = .next (at' s.ds)) ∧
    (encode (.lock (.xchgRmReg .word .r0 (.reg .r3))) = [0xF0, 0x87, 0xC3] ∧
      exec (.lock (.xchgRmReg .word .r0 (.reg .r3))) s = .next { s with ax := s.bx, bx := s.ax, ip := s.ip + 3 }) ∧
    ∀ w, s.cx = 0 →
      (encode (.rep (.stos w)) = [0xF3, byW w 0xAA 0xAB] ∧
        exec (.rep (.stos w)) s = .next { s with ip := s.ip + 2 }) ∧
      (encode (.repne (.scas w)) = [0xF2, byW w 0xAE 0xAF] ∧
        exec (.repne (.scas w)) s = .next { s with ip := s.ip + 2 })

/-! ## Data transfer -/

/-- MOV between register and r/m, of immediates, of the accumulator at a direct offset, and of segment registers, CS as a
destination included (R200, R201, R202, R203, R204, R205, R206). -/
def Obligations.MovResults : Prop :=
  ∀ (ps : List Prefix) (s : State),
    (∀ w reg rm, Goes ps (.movRmReg .toRM w reg rm) (byW w 0x88 0x89 :: encodeModRM reg rm) s
      (s.writeLoc w (place ps rm s) (s.reg w reg))) ∧
    (∀ w reg rm, Goes ps (.movRmReg .toReg w reg rm) (byW w 0x8A 0x8B :: encodeModRM reg rm) s
      (s.setReg w reg (s.readLoc w (place ps rm s)))) ∧
    (∀ r imm, Goes ps (.movReg8Imm r imm) [0xB0 + r.bits.setWidth 8, imm] s (s.setReg .byte r imm)) ∧
    (∀ r imm, Goes ps (.movReg16Imm r imm) ((0xB8 + r.bits.setWidth 8) :: two imm) s (s.setReg .word r imm)) ∧
    (∀ rm imm, Goes ps (.movRm8Imm8 rm imm) (0xC6 :: encodeModRM .r0 rm ++ [imm]) s
      (s.writeLoc .byte (place ps rm s) imm)) ∧
    (∀ rm imm, Goes ps (.movRm16Imm16 rm imm) (0xC7 :: encodeModRM .r0 rm ++ two imm) s
      (s.writeLoc .word (place ps rm s) imm)) ∧
    (∀ w off, Goes ps (.movAccMoffs w off) (byW w 0xA0 0xA1 :: two off) s
      (s.setReg w .r0 (s.mem.read w (phys (segmentOf ps .ds s) off)))) ∧
    (∀ w off, Goes ps (.movMoffsAcc w off) (byW w 0xA2 0xA3 :: two off) s
      { s with mem := s.mem.write w (phys (segmentOf ps .ds s) off) (s.reg w .r0) }) ∧
    (∀ rm, Goes ps (.movRmSreg .es rm) (0x8C :: encodeModRM .r0 rm) s (s.writeLoc .word (place ps rm s) s.es)) ∧
    (∀ rm, Goes ps (.movRmSreg .cs rm) (0x8C :: encodeModRM .r1 rm) s (s.writeLoc .word (place ps rm s) s.cs)) ∧
    (∀ rm, Goes ps (.movRmSreg .ss rm) (0x8C :: encodeModRM .r2 rm) s (s.writeLoc .word (place ps rm s) s.ss)) ∧
    (∀ rm, Goes ps (.movRmSreg .ds rm) (0x8C :: encodeModRM .r3 rm) s (s.writeLoc .word (place ps rm s) s.ds)) ∧
    (∀ rm, Goes ps (.movSregRm .es rm) (0x8E :: encodeModRM .r0 rm) s
      { s with es := s.readLoc .word (place ps rm s) }) ∧
    (∀ rm, Goes ps (.movSregRm .cs rm) (0x8E :: encodeModRM .r1 rm) s
      { s with cs := s.readLoc .word (place ps rm s) }) ∧
    (∀ rm, Goes ps (.movSregRm .ss rm) (0x8E :: encodeModRM .r2 rm) s
      { s with ss := s.readLoc .word (place ps rm s) }) ∧
    (∀ rm, Goes ps (.movSregRm .ds rm) (0x8E :: encodeModRM .r3 rm) s
      { s with ds := s.readLoc .word (place ps rm s) })

/-- PUSH: SP is decremented, then the word is written at the new SS:SP; for PUSH SP it is the decremented SP. POP:
the word at the old SS:SP, then SP + 2, then the destination; POP SP ends with SP the popped word, and a memory destination
is where the registers at the start put it (R207, R208, R209). -/
def Obligations.PushPopResults : Prop :=
  ∀ (ps : List Prefix) (s : State),
    let up : State := { s with sp := s.sp + 2 }
    let top := stackWord s 0
    (∀ r, r ≠ .r4 → Goes ps (.pushReg r) [0x50 + r.bits.setWidth 8] s (pushed s (s.reg .word r))) ∧
    Goes ps (.pushReg .r4) [0x54] s (pushed s (s.sp - 2)) ∧
    Goes ps .pushEs [0x06] s (pushed s s.es) ∧
    Goes ps .pushCs [0x0E] s (pushed s s.cs) ∧
    Goes ps .pushSs [0x16] s (pushed s s.ss) ∧
    Goes ps .pushDs [0x1E] s (pushed s s.ds) ∧
    (∀ rm, rm ≠ .reg .r4 →
      Goes ps (.pushRm rm) (0xFF :: encodeModRM .r6 rm) s (pushed s (s.readLoc .word (place ps rm s)))) ∧
    Goes ps (.pushRm (.reg .r4)) [0xFF, 0xF4] s (pushed s (s.sp - 2)) ∧
    (∀ r, Goes ps (.popReg r) [0x58 + r.bits.setWidth 8] s (up.setReg .word r top)) ∧
    Goes ps (.popReg .r4) [0x5C] s { s with sp := top } ∧
    Goes ps .popEs [0x07] s { up with es := top } ∧
    Goes ps .popSs [0x17] s { up with ss := top } ∧
    Goes ps .popDs [0x1F] s { up with ds := top } ∧
    (∀ rm, Goes ps (.popRm rm) (0x8F :: encodeModRM .r0 rm) s (up.writeLoc .word (place ps rm s) top))

/-- XCHG exchanges its operands (R211, R212). -/
def Obligations.XchgResults : Prop :=
  ∀ (ps : List Prefix) (s : State),
    Goes ps .xchgAxCx [0x91] s { s with ax := s.cx, cx := s.ax } ∧
    Goes ps .xchgAxDx [0x92] s { s with ax := s.dx, dx := s.ax } ∧
    Goes ps .xchgAxBx [0x93] s { s with ax := s.bx, bx := s.ax } ∧
    Goes ps .xchgAxSp [0x94] s { s with ax := s.sp, sp := s.ax } ∧
    Goes ps .xchgAxBp [0x95] s { s with ax := s.bp, bp := s.ax } ∧
    Goes ps .xchgAxSi [0x96] s { s with ax := s.si, si := s.ax } ∧
    Goes ps .xchgAxDi [0x97] s { s with ax := s.di, di := s.ax } ∧
    (∀ w reg rm, Goes ps (.xchgRmReg w reg rm) (byW w 0x86 0x87 :: encodeModRM reg rm) s
      ((s.writeLoc w (place ps rm s) (s.reg w reg)).setReg w reg (s.readLoc w (place ps rm s)))) ∧
    (∀ w reg r, (s.writeLoc w (place ps (.reg r) s) (s.reg w reg)).setReg w reg (s.readLoc w (place ps (.reg r) s)) =
      (s.setReg w reg (s.reg w r)).setReg w r (s.reg w reg))

/-- IN: AL or AX becomes some value of the environment and the event is recorded with it (R213, R80); the value and the
model's counter of free values are free (log entry 5). OUT: AL or AX is handed to the environment, and no state of the core
changes except IP (R214, R80). -/
def Obligations.InOutResults : Prop :=
  ∀ (ps : List Prefix) (s : State) (w : Width),
    (∀ port, ∃ v n, Goes ps (.inImm w port) [byW w 0xE4 0xE5, port] s
      { s.setReg w .r0 v with io := s.io ++ [⟨.input, port.setWidth 16, w, v.setWidth 16⟩], draws := n }) ∧
    (∃ v n, Goes ps (.inDx w) [byW w 0xEC 0xED] s
      { s.setReg w .r0 v with io := s.io ++ [⟨.input, s.dx, w, v.setWidth 16⟩], draws := n }) ∧
    (∀ port, Goes ps (.outImm w port) [byW w 0xE6 0xE7, port] s
      { s with io := s.io ++ [⟨.output, port.setWidth 16, w, (s.reg w .r0).setWidth 16⟩] }) ∧
    Goes ps (.outDx w) [byW w 0xEE 0xEF] s
      { s with io := s.io ++ [⟨.output, s.dx, w, (s.reg w .r0).setWidth 16⟩] }

/-- LEA loads the offset, LDS and LES the far pointer at it, both words read before a register is written (R215, R220, R221,
R66). -/
def Obligations.AddressLoadResults : Prop :=
  ∀ (ps : List Prefix) (s : State) (reg : RegNum) (rm : RM) (sg off : Word), place ps rm s = .mem sg off →
    Goes ps (.lea reg rm) (0x8D :: encodeModRM reg rm) s (s.setReg .word reg off) ∧
    Goes ps (.lds reg rm) (0xC5 :: encodeModRM reg rm) s
      { s.setReg .word reg (s.mem.read .word (phys sg off)) with ds := s.mem.read .word (phys sg (off + 2)) } ∧
    Goes ps (.les reg rm) (0xC4 :: encodeModRM reg rm) s
      { s.setReg .word reg (s.mem.read .word (phys sg off)) with es := s.mem.read .word (phys sg (off + 2)) }

/-- The five memory-only instructions on a register operand, which no encoding has (R127): PreconditionViolation, nothing
written (R509). That these terms fault so is the model's choice (log entry 13). -/
def Obligations.MalformedTermsFault : Prop :=
  ∀ (ps : List Prefix) (s : State) (reg r : RegNum),
    exec ((Instr.lea reg (.reg r)).withPrefixes ps) s = .next (faulted s .preconditionViolation 0x8D none) ∧
    exec ((Instr.lds reg (.reg r)).withPrefixes ps) s = .next (faulted s .preconditionViolation 0xC5 none) ∧
    exec ((Instr.les reg (.reg r)).withPrefixes ps) s = .next (faulted s .preconditionViolation 0xC4 none) ∧
    exec ((Instr.callFarRm (.reg r)).withPrefixes ps) s = .next (faulted s .preconditionViolation 0xFF none) ∧
    exec ((Instr.jmpFarRm (.reg r)).withPrefixes ps) s = .next (faulted s .preconditionViolation 0xFF none)

/-- LAHF, SAHF, PUSHF, POPF: all sixteen bits are read as stored, the defined bits alone are written (R216, R217, R218, R219,
R34). -/
def Obligations.FlagTransferResults : Prop :=
  ∀ (ps : List Prefix) (s : State),
    Goes ps .lahf [0x9F] s (s.setReg .byte .r4 (s.flags.setWidth 8)) ∧
    Goes ps .sahf [0x9E] s
      { s with flags := (s.flags &&& ~~~0x00D5) ||| ((s.reg .byte .r4).setWidth 16 &&& 0x00D5) } ∧
    Goes ps .pushf [0x9C] s (pushed s s.flags) ∧
    Goes ps .popf [0x9D] s
      { s with sp := s.sp + 2, flags := (s.flags &&& ~~~0x0FD5) ||| (stackWord s 0 &&& 0x0FD5) }

/-- CBW, CWD and XLAT (R222, R223, R224). -/
def Obligations.ConversionResults : Prop :=
  ∀ (ps : List Prefix) (s : State),
    Goes ps .cbw [0x98] s { s with ax := (s.reg .byte .r0).signExtend 16 } ∧
    Goes ps .cwd [0x99] s { s with dx := if s.ax.getLsbD 15 then 0xFFFF else 0x0000 } ∧
    Goes ps .xlat [0xD7] s
      (s.setReg .byte .r0 (s.mem.byteAt (phys (segmentOf ps .ds s) (s.bx + (s.reg .byte .r0).setWidth 16))))

/-! ## Arithmetic -/

/-- ADD and ADC, in all seven forms: the sum modulo 2^N with the carry in, and the six status flags (R250, R251, R252,
R253). -/
def Obligations.AddAdcResults : Prop :=
  addForms.Have (addsInto fun _ => false) ∧ adcForms.Have (addsInto fun s => s.flags.getLsbD 0)

/-- SUB, SBB and CMP, in all seven forms: the difference modulo 2^N with the borrow in, and the six status flags; CMP writes
no operand (R250, R251, R254, R255, R256). -/
def Obligations.SubSbbCmpResults : Prop :=
  subForms.Have (subtractsFrom fun _ => false) ∧ sbbForms.Have (subtractsFrom fun s => s.flags.getLsbD 0) ∧
    cmpForms.Have compares

/-- INC and DEC: plus or minus 1, five status flags, CF unchanged (R257, R258). -/
def Obligations.IncDecResults : Prop :=
  ∀ (ps : List Prefix) (s : State),
    let inc : (w : Width) → Loc → State → Prop := fun w l t =>
      let a := s.readLoc w l
      ∃ fl, t = { s.writeLoc w l (a + 1) with flags := fl } ∧
        FlagsBecome ([(4, auxCarry a 1 (a + 1)), (11, outOfRange w.bits (a.toInt + 1))] ++ szp (a + 1)) [] s.flags fl
    let dec : (w : Width) → Loc → State → Prop := fun w l t =>
      let a := s.readLoc w l
      ∃ fl, t = { s.writeLoc w l (a - 1) with flags := fl } ∧
        FlagsBecome ([(4, auxCarry a 1 (a - 1)), (11, outOfRange w.bits (a.toInt - 1))] ++ szp (a - 1)) [] s.flags fl
    (∀ r, ∃ t, Goes ps (.incReg r) [0x40 + r.bits.setWidth 8] s t ∧ inc .word (.reg r) t) ∧
    (∀ w rm, ∃ t, Goes ps (.incRm w rm) (byW w 0xFE 0xFF :: encodeModRM .r0 rm) s t ∧ inc w (place ps rm s) t) ∧
    (∀ r, ∃ t, Goes ps (.decReg r) [0x48 + r.bits.setWidth 8] s t ∧ dec .word (.reg r) t) ∧
    (∀ w rm, ∃ t, Goes ps (.decRm w rm) (byW w 0xFE 0xFF :: encodeModRM .r1 rm) s t ∧ dec w (place ps rm s) t)

/-- NEG: 0 − a, CF = (a ≠ 0), OF = (a = 2^(N−1)), AF = (low four bits ≠ 0) (R259). NOT: the complement, no flag (R305). -/
def Obligations.NegNotResults : Prop :=
  ∀ (ps : List Prefix) (s : State) (w : Width) (rm : RM),
    let l := place ps rm s
    let a := s.readLoc w l
    (∃ fl, Goes ps (.negRm w rm) (byW w 0xF6 0xF7 :: encodeModRM .r3 rm) s { s.writeLoc w l (0 - a) with flags := fl } ∧
      FlagsBecome
        ([(0, decide (a.toNat ≠ 0)), (11, decide (a.toNat = 2 ^ (w.bits - 1))), (4, decide (a.toNat % 16 ≠ 0))] ++
          szp (0 - a)) [] s.flags fl) ∧
    Goes ps (.notRm w rm) (byW w 0xF6 0xF7 :: encodeModRM .r2 rm) s
      (s.writeLoc w l (BitVec.ofNat w.bits (2 ^ w.bits - 1 - a.toNat)))

/-- MUL and IMUL: the exact double-width product, CF = OF = the high half is significant; SF ZF AF PF are free (R260,
R261). -/
def Obligations.MulImulResults : Prop :=
  ∀ (ps : List Prefix) (s : State) (rm : RM),
    let b := s.readLoc .byte (place ps rm s)
    let v := s.readLoc .word (place ps rm s)
    let al := s.reg .byte .r0
    let flags : Bool → Word → Prop := fun big fl => FlagsBecome [(0, big), (11, big)] [2, 4, 6, 7] s.flags fl
    (∃ fl n, Goes ps (.mulRm .byte rm) (0xF6 :: encodeModRM .r4 rm) s
        { s with ax := BitVec.ofNat 16 (al.toNat * b.toNat), flags := fl, draws := n } ∧
      flags (decide (al.toNat * b.toNat / 0x100 ≠ 0)) fl) ∧
    (∃ fl n, Goes ps (.mulRm .word rm) (0xF7 :: encodeModRM .r4 rm) s
        { s with
          ax := BitVec.ofNat 16 (s.ax.toNat * v.toNat), dx := BitVec.ofNat 16 (s.ax.toNat * v.toNat / 0x10000)
          flags := fl, draws := n } ∧
      flags (decide (s.ax.toNat * v.toNat / 0x10000 ≠ 0)) fl) ∧
    (∃ fl n, Goes ps (.imulRm .byte rm) (0xF6 :: encodeModRM .r5 rm) s
        { s with ax := BitVec.ofInt 16 (al.toInt * b.toInt), flags := fl, draws := n } ∧
      flags (outOfRange 8 (al.toInt * b.toInt)) fl) ∧
    ∃ fl n, Goes ps (.imulRm .word rm) (0xF7 :: encodeModRM .r5 rm) s
        { s with
          ax := BitVec.ofInt 16 (s.ax.toInt * v.toInt), dx := BitVec.ofInt 16 ((s.ax.toInt * v.toInt) / 0x10000)
          flags := fl, draws := n } ∧
      flags (outOfRange 16 (s.ax.toInt * v.toInt)) fl

/-- DIV: quotient and remainder when the divisor is not zero and the quotient fits, the six status flags free; otherwise
DivideByZero or DivideOverflow, nothing written (R262, R503, R505). -/
def Obligations.DivResults : Prop :=
  ∀ (ps : List Prefix) (s : State) (rm : RM),
    let b := (s.readLoc .byte (place ps rm s)).toNat
    let v := (s.readLoc .word (place ps rm s)).toNat
    let n := s.dx.toNat * 0x10000 + s.ax.toNat
    let i8 := Instr.divRm .byte rm
    let i16 := Instr.divRm .word rm
    (b ≠ 0 → s.ax.toNat / b ≤ 0xFF → ∃ fl k,
      Goes ps i8 (0xF6 :: encodeModRM .r6 rm) s
        { s with ax := BitVec.ofNat 16 (s.ax.toNat % b * 0x100 + s.ax.toNat / b), flags := fl, draws := k } ∧
      FlagsBecome [] [0, 2, 4, 6, 7, 11] s.flags fl) ∧
    (b = 0 → exec (i8.withPrefixes ps) s = .next (faulted s .divideByZero 0xF6 none)) ∧
    (b ≠ 0 → 0xFF < s.ax.toNat / b → exec (i8.withPrefixes ps) s = .next (faulted s .divideOverflow 0xF6 none)) ∧
    (v ≠ 0 → n / v ≤ 0xFFFF → ∃ fl k,
      Goes ps i16 (0xF7 :: encodeModRM .r6 rm) s
        { s with ax := BitVec.ofNat 16 (n / v), dx := BitVec.ofNat 16 (n % v), flags := fl, draws := k } ∧
      FlagsBecome [] [0, 2, 4, 6, 7, 11] s.flags fl) ∧
    (v = 0 → exec (i16.withPrefixes ps) s = .next (faulted s .divideByZero 0xF7 none)) ∧
    (v ≠ 0 → 0xFFFF < n / v → exec (i16.withPrefixes ps) s = .next (faulted s .divideOverflow 0xF7 none))

/-- IDIV: the quotient `q` truncated toward zero and the remainder `r` with the sign of the dividend, when the divisor is not
zero and −(2^(N−1) − 1) ≤ q ≤ 2^(N−1) − 1; otherwise the fault (R263, R503, R505). `q` and `r` are said by n = q·s + r, the
size and the sign of r. -/
def Obligations.IdivResults : Prop :=
  ∀ (ps : List Prefix) (s : State) (rm : RM),
    let b := (s.readLoc .byte (place ps rm s)).toInt
    let v := (s.readLoc .word (place ps rm s)).toInt
    let n8 := s.ax.toInt
    let n16 := (s.dx ++ s.ax).toInt
    let divides : Int → Int → Int → Int → Prop := fun n d q r =>
      n = q * d + r ∧ r.natAbs < d.natAbs ∧ (0 ≤ n → 0 ≤ r) ∧ (n ≤ 0 → r ≤ 0)
    let i8 := Instr.idivRm .byte rm
    let i16 := Instr.idivRm .word rm
    (b = 0 → exec (i8.withPrefixes ps) s = .next (faulted s .divideByZero 0xF6 none)) ∧
    (∀ q r, divides n8 b q r →
      (-127 ≤ q → q ≤ 127 → ∃ fl k,
        Goes ps i8 (0xF6 :: encodeModRM .r7 rm) s
          { s with ax := BitVec.ofInt 8 r ++ BitVec.ofInt 8 q, flags := fl, draws := k } ∧
        FlagsBecome [] [0, 2, 4, 6, 7, 11] s.flags fl) ∧
      (q < -127 ∨ 127 < q → exec (i8.withPrefixes ps) s = .next (faulted s .divideOverflow 0xF6 none))) ∧
    (v = 0 → exec (i16.withPrefixes ps) s = .next (faulted s .divideByZero 0xF7 none)) ∧
    (∀ q r, divides n16 v q r →
      (-32767 ≤ q → q ≤ 32767 → ∃ fl k,
        Goes ps i16 (0xF7 :: encodeModRM .r7 rm) s
          { s with ax := BitVec.ofInt 16 q, dx := BitVec.ofInt 16 r, flags := fl, draws := k } ∧
        FlagsBecome [] [0, 2, 4, 6, 7, 11] s.flags fl) ∧
      (q < -32767 ∨ 32767 < q → exec (i16.withPrefixes ps) s = .next (faulted s .divideOverflow 0xF7 none)))

/-- AAA and AAS: AL and AH are adjusted separately, AF = CF = adjusted; OF SF ZF PF are free (R264, R266). -/
def Obligations.AaaAasResults : Prop :=
  ∀ (ps : List Prefix) (s : State),
    let al := s.reg .byte .r0
    let ah := s.reg .byte .r4
    let adj := decide (9 < al.toNat % 16) || s.flags.getLsbD 4
    (∃ fl n, Goes ps .aaa [0x37] s
        { s with
          ax := (if adj then ah + 1 else ah) ++ ((if adj then al + 6 else al) &&& 0x0F), flags := fl, draws := n } ∧
      FlagsBecome [(4, adj), (0, adj)] [11, 7, 6, 2] s.flags fl) ∧
    ∃ fl n, Goes ps .aas [0x3F] s
        { s with
          ax := (if adj then ah - 1 else ah) ++ ((if adj then al - 6 else al) &&& 0x0F), flags := fl, draws := n } ∧
      FlagsBecome [(4, adj), (0, adj)] [11, 7, 6, 2] s.flags fl

/-- DAA and DAS: AL is adjusted by 6 and by 60h, both tests on the old AL, AF and CF; SF ZF PF from the result, OF free (R265,
R267). -/
def Obligations.DaaDasResults : Prop :=
  ∀ (ps : List Prefix) (s : State),
    let al := s.reg .byte .r0
    let lo := decide (9 < al.toNat % 16) || s.flags.getLsbD 4
    let hi := decide (0x99 < al.toNat) || s.flags.getLsbD 0
    let by' : Byte := (if lo then 6 else 0) + (if hi then 0x60 else 0)
    (∃ fl n, Goes ps .daa [0x27] s { s.setReg .byte .r0 (al + by') with flags := fl, draws := n } ∧
      FlagsBecome ([(4, lo), (0, hi)] ++ szp (al + by')) [11] s.flags fl) ∧
    ∃ fl n, Goes ps .das [0x2F] s { s.setReg .byte .r0 (al - by') with flags := fl, draws := n } ∧
      FlagsBecome ([(4, lo), (0, hi)] ++ szp (al - by')) [11] s.flags fl

/-- AAM divides AL by the immediate, whatever its value, a zero immediate being DivideByZero; AAD is the way back. SF ZF PF
from AL, OF AF CF free (R268, R269). -/
def Obligations.AamAadResults : Prop :=
  ∀ (ps : List Prefix) (s : State) (imm : Byte),
    let al := (s.reg .byte .r0).toNat
    let ah := (s.reg .byte .r4).toNat
    let k := imm.toNat
    (k ≠ 0 → ∃ fl n, Goes ps (.aam imm) [0xD4, imm] s
        { s with ax := BitVec.ofNat 16 (al / k * 0x100 + al % k), flags := fl, draws := n } ∧
      FlagsBecome (szp (BitVec.ofNat 8 (al % k))) [11, 4, 0] s.flags fl) ∧
    (k = 0 → exec ((Instr.aam imm).withPrefixes ps) s = .next (faulted s .divideByZero 0xD4 none)) ∧
    ∃ fl n, Goes ps (.aad imm) [0xD5, imm] s
        { s with ax := BitVec.ofNat 16 ((al + ah * k) % 0x100), flags := fl, draws := n } ∧
      FlagsBecome (szp (BitVec.ofNat 8 (al + ah * k))) [11, 4, 0] s.flags fl

/-! ## Logic, shifts and rotates -/

/-- AND, OR, XOR in all seven forms and TEST in its five: the bitwise result, CF = OF = 0, SF ZF PF from it, AF free; TEST
writes no operand (R250, R300, R301, R302, R303, R304). -/
def Obligations.LogicResults : Prop :=
  andForms.Have (combines fun a b => a &&& b) ∧ orForms.Have (combines fun a b => a ||| b) ∧
    xorForms.Have (combines fun a b => a ^^^ b) ∧
    ∀ (ps : List Prefix) (s : State),
      (∀ w reg rm, ∃ t, Goes ps (.testRmReg w reg rm) (byW w 0x84 0x85 :: encodeModRM reg rm) s t ∧
        tests w (place ps rm s) (s.reg w reg) s t) ∧
      (∀ imm, ∃ t, Goes ps (.testAl imm) [0xA8, imm] s t ∧ tests .byte (.reg .r0) imm s t) ∧
      (∀ imm, ∃ t, Goes ps (.testAx imm) (0xA9 :: two imm) s t ∧ tests .word (.reg .r0) imm s t) ∧
      (∀ rm imm, ∃ t, Goes ps (.testRm8Imm8 rm imm) (0xF6 :: encodeModRM .r0 rm ++ [imm]) s t ∧
        tests .byte (place ps rm s) imm s t) ∧
      ∀ rm imm, ∃ t, Goes ps (.testRm16Imm16 rm imm) (0xF7 :: encodeModRM .r0 rm ++ two imm) s t ∧
        tests .word (place ps rm s) imm s t

/-- SHL, SHR, SAR by any count 0 to 255, in closed form (R306, R307, R308, R309). -/
def Obligations.ShiftResults : Prop :=
  Shifts .shlRm .r4 true shlRule ∧ Shifts .shrRm .r5 true shrRule ∧ Shifts .sarRm .r7 true sarRule

/-- ROL, ROR, RCL, RCR by any count 0 to 255, in closed form; RCL and RCR rotate the N + 1 bits CF ++ v (R306, R310, R311,
R312, R313). -/
def Obligations.RotateResults : Prop :=
  Shifts .rolRm .r0 false rolRule ∧ Shifts .rorRm .r1 false rorRule ∧ Shifts .rclRm .r2 false rclRule ∧
    Shifts .rcrRm .r3 false rcrRule

/-! ## Strings -/

/-- Without a repeat prefix a string instruction performs exactly one repetition and does not touch CX (R340 to R348). -/
def Obligations.StringSingleResults : Prop :=
  ∀ (ps : List Prefix) (s : State) (op : StringOp) (w : Width), lastRepeat ps = none →
    ∃ t, Goes ps (stringInstr op w).1 [(stringInstr op w).2] s t ∧ OneRepetition op ps w s t

/-- With a repeat prefix the whole loop is one instruction: it runs while CX is not 0, each repetition counted in CX, and for
CMPS and SCAS ends early by the ZF test; with CX = 0 nothing but IP changes (R348). -/
def Obligations.StringRepeatResults : Prop :=
  ∀ (ps : List Prefix) (s : State) (op : StringOp) (w : Width) (repe : Bool), lastRepeat ps = some repe →
    ∃ l, LoopRuns op ps w repe s l ∧ l.length ≤ s.cx.toNat ∧
      Goes ps (stringInstr op w).1 [(stringInstr op w).2] s (l.getLastD s)

/-! ## Control transfer -/

/-- CALL: CS for a far call, then `next`, is pushed; the target, or both words of a far pointer, is read before the pushes
(R360, R361, R362, R378). -/
def Obligations.CallResults : Prop :=
  ∀ (ps : List Prefix) (s : State),
    (∀ rel, let b := 0xE8 :: two rel
      Jumps ps (.callRel rel) b s { pushed s (after ps b s) with ip := after ps b s + rel }) ∧
    (∀ rm, let b := 0xFF :: encodeModRM .r2 rm
      Jumps ps (.callRm rm) b s { pushed s (after ps b s) with ip := s.readLoc .word (place ps rm s) }) ∧
    (∀ off seg, let b := 0x9A :: (two off ++ two seg)
      Jumps ps (.callFar off seg) b s { pushed (pushed s s.cs) (after ps b s) with cs := seg, ip := off }) ∧
    (∀ rm sg off, place ps rm s = .mem sg off → let b := 0xFF :: encodeModRM .r3 rm
      Jumps ps (.callFarRm rm) b s
        { pushed (pushed s s.cs) (after ps b s) with
          cs := s.mem.read .word (phys sg (off + 2)), ip := s.mem.read .word (phys sg off) })

/-- JMP: IP, and for a far jump CS, become the target; nothing else changes (R363, R364, R365, R379, R380). -/
def Obligations.JmpResults : Prop :=
  ∀ (ps : List Prefix) (s : State),
    (∀ rel : Byte, Jumps ps (.jmpShort rel) [0xEB, rel] s { s with ip := after ps [0xEB, rel] s + rel.signExtend 16 }) ∧
    (∀ rel, Jumps ps (.jmpRel rel) (0xE9 :: two rel) s { s with ip := after ps (0xE9 :: two rel) s + rel }) ∧
    (∀ rm, Jumps ps (.jmpRm rm) (0xFF :: encodeModRM .r4 rm) s { s with ip := s.readLoc .word (place ps rm s) }) ∧
    (∀ off seg, Jumps ps (.jmpFar off seg) (0xEA :: (two off ++ two seg)) s { s with cs := seg, ip := off }) ∧
    (∀ rm sg off, place ps rm s = .mem sg off →
      Jumps ps (.jmpFarRm rm) (0xFF :: encodeModRM .r5 rm) s
        { s with cs := s.mem.read .word (phys sg (off + 2)), ip := s.mem.read .word (phys sg off) })

/-- RET and RETF: the offset, for a far return then the segment, is popped; the immediate is added to SP after the pops (R366,
R367, R368, R369). -/
def Obligations.RetResults : Prop :=
  ∀ (ps : List Prefix) (s : State),
    Jumps ps .ret [0xC3] s { s with sp := s.sp + 2, ip := stackWord s 0 } ∧
    (∀ imm, Jumps ps (.retImm imm) (0xC2 :: two imm) s { s with sp := s.sp + 2 + imm, ip := stackWord s 0 }) ∧
    Jumps ps .retf [0xCB] s { s with sp := s.sp + 4, cs := stackWord s 2, ip := stackWord s 0 } ∧
    (∀ imm, Jumps ps (.retfImm imm) (0xCA :: two imm) s
      { s with sp := s.sp + 4 + imm, cs := stackWord s 2, ip := stackWord s 0 })

/-- The sixteen conditional jumps: the predicate of the opcode decides between the target and `next`; no flag is written
(R371, R372). -/
def Obligations.ConditionalJumpResults : Prop :=
  ∀ (ps : List Prefix) (s : State) (rel : Byte),
    let cf := s.flags.getLsbD 0
    let pf := s.flags.getLsbD 2
    let zf := s.flags.getLsbD 6
    let sf := s.flags.getLsbD 7
    let off := s.flags.getLsbD 11
    let branches : Instr → Byte → Prop → Prop := fun i op p =>
      (p → Jumps ps i [op, rel] s { s with ip := after ps [op, rel] s + rel.signExtend 16 }) ∧
      (¬ p → Jumps ps i [op, rel] s { s with ip := after ps [op, rel] s })
    branches (.jo rel) 0x70 (off = true) ∧
    branches (.jno rel) 0x71 (off = false) ∧
    branches (.jb rel) 0x72 (cf = true) ∧
    branches (.jnb rel) 0x73 (cf = false) ∧
    branches (.jz rel) 0x74 (zf = true) ∧
    branches (.jnz rel) 0x75 (zf = false) ∧
    branches (.jbe rel) 0x76 (cf = true ∨ zf = true) ∧
    branches (.jnbe rel) 0x77 (cf = false ∧ zf = false) ∧
    branches (.js rel) 0x78 (sf = true) ∧
    branches (.jns rel) 0x79 (sf = false) ∧
    branches (.jp rel) 0x7A (pf = true) ∧
    branches (.jnp rel) 0x7B (pf = false) ∧
    branches (.jl rel) 0x7C (sf ≠ off) ∧
    branches (.jnl rel) 0x7D (sf = off) ∧
    branches (.jle rel) 0x7E (zf = true ∨ sf ≠ off) ∧
    branches (.jnle rel) 0x7F (zf = false ∧ sf = off)

/-- LOOP, LOOPZ, LOOPNZ count CX down modulo 2^16 and branch while it is not 0, with the ZF test; JCXZ branches when CX is
0 and does not count; no flag is written (R374, R375, R376, R377). -/
def Obligations.LoopResults : Prop :=
  ∀ (ps : List Prefix) (s : State) (rel : Byte),
    let zf := s.flags.getLsbD 6
    let branches : Instr → Byte → Word → Prop → Prop := fun i op cx p =>
      (p → Jumps ps i [op, rel] s { s with cx := cx, ip := after ps [op, rel] s + rel.signExtend 16 }) ∧
      (¬ p → Jumps ps i [op, rel] s { s with cx := cx, ip := after ps [op, rel] s })
    branches (.loop rel) 0xE2 (s.cx - 1) (s.cx ≠ 1) ∧
    branches (.loopz rel) 0xE1 (s.cx - 1) (s.cx ≠ 1 ∧ zf = true) ∧
    branches (.loopnz rel) 0xE0 (s.cx - 1) (s.cx ≠ 1 ∧ zf = false) ∧
    branches (.jcxz rel) 0xE3 s.cx (s.cx = 0)

/-- INT, INT3 and INTO push FLAGS as stored, CS and `next`, clear IF and TF and load CS:IP from the vector at physical
4 × type, read after the pushes; INTO not taken is `IP <- next` (R384, R385, R386, R387, R511). -/
def Obligations.InterruptResults : Prop :=
  ∀ (ps : List Prefix) (s : State),
    let entry : Nat → List Byte → State := fun t b =>
      let u := pushed (pushed (pushed s s.flags) s.cs) (after ps b s)
      { u with
        flags := s.flags &&& ~~~0x0300
        cs := u.mem.read .word (BitVec.ofNat 20 (4 * t + 2))
        ip := u.mem.read .word (BitVec.ofNat 20 (4 * t)) }
    (∀ imm, Jumps ps (.intImm imm) [0xCD, imm] s (entry imm.toNat [0xCD, imm])) ∧
    Jumps ps .int3 [0xCC] s (entry 3 [0xCC]) ∧
    (s.flags.getLsbD 11 = true → Jumps ps .into [0xCE] s (entry 4 [0xCE])) ∧
    (s.flags.getLsbD 11 = false → Goes ps .into [0xCE] s s)

/-- IRET pops IP, CS and the nine defined flags; right after an INT it restores CS, SP and FLAGS, with IP at the instruction
after the INT, wherever the stack lies (R388, R511). -/
def Obligations.IretResults : Prop :=
  (∀ (ps : List Prefix) (s : State),
    Jumps ps .iret [0xCF] s
      { s with
        sp := s.sp + 6, ip := stackWord s 0, cs := stackWord s 2
        flags := (s.flags &&& ~~~0x0FD5) ||| (stackWord s 4 &&& 0x0FD5) }) ∧
  ∀ (s t : State) (imm : Byte), exec (.intImm imm) s = .next t →
    exec .iret t = .next { s with ip := s.ip + 2, mem := t.mem }

/-! ## Processor control -/

/-- The single-flag instructions, HLT, WAIT, ESC and NOP (R410 to R418, R420, R421): one bit of FLAGS changes, or the run
state, or nothing but IP. -/
def Obligations.ProcessorControlResults : Prop :=
  ∀ (ps : List Prefix) (s : State),
    Goes ps .clc [0xF8] s { s with flags := s.flags &&& ~~~0x0001 } ∧
    Goes ps .stc [0xF9] s { s with flags := s.flags ||| 0x0001 } ∧
    Goes ps .cmc [0xF5] s { s with flags := s.flags ^^^ 0x0001 } ∧
    Goes ps .cld [0xFC] s { s with flags := s.flags &&& ~~~0x0400 } ∧
    Goes ps .std [0xFD] s { s with flags := s.flags ||| 0x0400 } ∧
    Goes ps .cli [0xFA] s { s with flags := s.flags &&& ~~~0x0200 } ∧
    Goes ps .sti [0xFB] s { s with flags := s.flags ||| 0x0200 } ∧
    Goes ps .hlt [0xF4] s { s with run := .halted } ∧
    Goes ps .wait [0x9B] s s ∧
    Goes ps .nop [0x90] s s ∧
    (∀ hi lo rm, Goes ps (.esc hi lo rm) ((0xD8 + hi.bits.setWidth 8) :: encodeModRM lo rm) s s)

end
end

