-- ==== Sys2Proof/Laws/Arith.lean ====
section
/-! SUPPORT. Facts about the arithmetic of R251: the results as sums of bit vectors, and the equivalent forms of AF and OF
that the rule gives. -/

namespace Sys2Proof.Machine

theorem addResult_eq {n : Nat} (a b : BitVec n) (c : Bool) : addResult a b c = a + b + BitVec.ofNat n c.toNat := by
  apply BitVec.eq_of_toNat_eq
  simp [addResult, BitVec.toNat_add]

theorem toNat_addResult {n : Nat} (a b : BitVec n) (c : Bool) :
    (addResult a b c).toNat = (a.toNat + b.toNat + c.toNat) % 2 ^ n := by
  simp [addResult]

theorem toNat_subResult {n : Nat} (a b : BitVec n) (c : Bool) :
    ((subResult a b c).toNat : Int) = ((a.toNat : Int) - b.toNat - c.toNat) % (2 ^ n : Nat) := by
  unfold subResult
  rw [BitVec.toNat_ofInt, Int.toNat_of_nonneg]
  exact Int.emod_nonneg _ (by exact_mod_cast (Nat.pos_of_ne_zero (by simp)).ne')

theorem subResult_eq (w : Width) (a b : BitVec w.bits) (c : Bool) :
    subResult a b c = a - b - BitVec.ofNat w.bits c.toNat := by
  apply BitVec.eq_of_toNat_eq
  have h := toNat_subResult a b c
  have ha := a.isLt
  have hb := b.isLt
  cases w <;> cases c <;>
    simp only [Width.bits, BitVec.toNat_sub, BitVec.toNat_ofNat, Bool.toNat_true, Bool.toNat_false] at * <;> omega

/-- AF of an addition is bit 4 of a XOR b XOR r (R251, "Equivalent forms"). -/
theorem af_add (w : Width) (a b : BitVec w.bits) (c : Bool) :
    decide (0xF < nibble a + nibble b + c.toNat) = (a ^^^ b ^^^ addResult a b c).getLsbD 4 := by
  have h : addResult a b c = a + b + (BitVec.ofBool c).setWidth w.bits := by
    rw [addResult_eq]; cases c <;> cases w <;> rfl
  have hw : 4 < w.bits := by cases w <;> decide
  rw [BitVec.getLsbD_xor, BitVec.getLsbD_xor, h, BitVec.getLsbD_add_add_bool hw]
  have hc : decide (0xF < nibble a + nibble b + c.toNat) = BitVec.carry 4 a b c := by
    simp only [BitVec.carry, nibble]
    congr 1
  rw [hc]
  cases a.getLsbD 4 <;> cases b.getLsbD 4 <;> simp

theorem subResult_eq_add_not (w : Width) (a b : BitVec w.bits) (c : Bool) :
    subResult a b c = a + ~~~b + (BitVec.ofBool (!c)).setWidth w.bits := by
  apply BitVec.eq_of_toNat_eq
  have h := toNat_subResult a b c
  cases w <;> cases c <;>
    simp only [Width.bits] at * <;>
    simp only [BitVec.toNat_add, BitVec.toNat_not, Bool.not_false, Bool.not_true, BitVec.toNat_setWidth,
      BitVec.toNat_ofBool, Bool.toNat_true, Bool.toNat_false] at * <;> omega

/-- AF of a subtraction is bit 4 of a XOR b XOR r (R251, "Equivalent forms"). -/
theorem af_sub (w : Width) (a b : BitVec w.bits) (c : Bool) :
    decide ((nibble a : Int) - nibble b - c.toNat < 0) = (a ^^^ b ^^^ subResult a b c).getLsbD 4 := by
  have hw : 4 < w.bits := by cases w <;> decide
  rw [BitVec.getLsbD_xor, BitVec.getLsbD_xor, subResult_eq_add_not, BitVec.getLsbD_add_add_bool hw]
  have hn : (~~~b).toNat % 16 = 15 - b.toNat % 16 := by
    have := b.isLt
    rw [BitVec.toNat_not]
    cases w <;> simp only [Width.bits] at * <;> omega
  have hc : decide ((nibble a : Int) - nibble b - c.toNat < 0) = !BitVec.carry 4 a (~~~b) (!c) := by
    simp only [BitVec.carry, nibble]
    rw [show (2 : Nat) ^ 4 = 16 from rfl, hn, ← decide_not]
    congr 1
    cases c <;> simp <;> omega
  rw [hc, BitVec.getLsbD_not]
  cases a.getLsbD 4 <;> cases b.getLsbD 4 <;> simp [hw]

/-- A signed number outside the range of the width. -/
def signedOut (w : Width) (x : Int) : Bool := decide (x < -2 ^ (w.bits - 1) ∨ 2 ^ (w.bits - 1) ≤ x)

theorem msb_xor_and {n : Nat} (a b r : BitVec n) :
    ((a ^^^ r) &&& (b ^^^ r)).msb = (Bool.xor a.msb r.msb && Bool.xor b.msb r.msb) := by simp

/-- OF of an addition says that the exact signed sum is out of range (R251, "Equivalent forms"). -/
theorem of_add (w : Width) (a b : BitVec w.bits) (c : Bool) :
    ((a ^^^ addResult a b c) &&& (b ^^^ addResult a b c)).msb = signedOut w (a.toInt + b.toInt + c.toNat) := by
  have h := toNat_addResult a b c
  have ha := a.isLt
  have hb := b.isLt
  rw [msb_xor_and]
  cases w <;> cases c <;>
    simp only [signedOut, BitVec.msb_eq_decide, BitVec.toInt_eq_toNat_cond, Width.bits, Bool.toNat_true,
      Bool.toNat_false] at * <;>
    (rw [Bool.eq_iff_iff]; simp only [Bool.and_eq_true, decide_eq_true_eq, bne_iff_ne, ne_eq,
      decide_eq_decide]; split <;> split <;> omega)

/-- OF of a subtraction says that the exact signed difference is out of range (R251, "Equivalent forms"). -/
theorem of_sub (w : Width) (a b : BitVec w.bits) (c : Bool) :
    ((a ^^^ b) &&& (a ^^^ subResult a b c)).msb = signedOut w (a.toInt - b.toInt - c.toNat) := by
  have h := toNat_subResult a b c
  have ha := a.isLt
  have hb := b.isLt
  have hr := (subResult a b c).isLt
  have hm : ((a ^^^ b) &&& (a ^^^ subResult a b c)).msb =
      (Bool.xor a.msb b.msb && Bool.xor a.msb (subResult a b c).msb) := by simp
  rw [hm]
  cases w <;> cases c <;>
    simp only [signedOut, BitVec.msb_eq_decide, BitVec.toInt_eq_toNat_cond, Width.bits, Bool.toNat_true,
      Bool.toNat_false] at * <;>
    (rw [Bool.eq_iff_iff]; simp only [Bool.and_eq_true, decide_eq_true_eq, bne_iff_ne, ne_eq,
      decide_eq_decide]; split <;> split <;> omega)

end Sys2Proof.Machine
end

