-- ==== Sys2Proof/Laws/Arms.lean ====
section
/-! SUPPORT. The arms of `execUnder` as rewrite rules, one a constructor, so that no proof unfolds the whole match. -/

namespace Sys2Proof.Machine

variable (c : Ctx) (s : State)

@[simp] theorem execUnder_addRmReg (d : Dir) (w : Width) (reg : RegNum) (rm : RM) :
    execUnder c (.addRmReg d w reg rm) s = execAddRmReg d w reg rm s c := rfl
@[simp] theorem execUnder_addAl (imm : Byte) : execUnder c (.addAl imm) s = execAddAl imm s c := rfl
@[simp] theorem execUnder_addAx (imm : Word) : execUnder c (.addAx imm) s = execAddAx imm s c := rfl
@[simp] theorem execUnder_addRm8Imm8 (rm : RM) (imm : Byte) :
    execUnder c (.addRm8Imm8 rm imm) s = execAddRm8Imm8 rm imm s c := rfl
@[simp] theorem execUnder_addRm16Imm16 (rm : RM) (imm : Word) :
    execUnder c (.addRm16Imm16 rm imm) s = execAddRm16Imm16 rm imm s c := rfl
@[simp] theorem execUnder_addRm8Imm8Alt (rm : RM) (imm : Byte) :
    execUnder c (.addRm8Imm8Alt rm imm) s = execAddRm8Imm8Alt rm imm s c := rfl
@[simp] theorem execUnder_addRm16Imm8 (rm : RM) (imm : Byte) :
    execUnder c (.addRm16Imm8 rm imm) s = execAddRm16Imm8 rm imm s c := rfl
@[simp] theorem execUnder_orRmReg (d : Dir) (w : Width) (reg : RegNum) (rm : RM) :
    execUnder c (.orRmReg d w reg rm) s = execOrRmReg d w reg rm s c := rfl
@[simp] theorem execUnder_orAl (imm : Byte) : execUnder c (.orAl imm) s = execOrAl imm s c := rfl
@[simp] theorem execUnder_orAx (imm : Word) : execUnder c (.orAx imm) s = execOrAx imm s c := rfl
@[simp] theorem execUnder_orRm8Imm8 (rm : RM) (imm : Byte) :
    execUnder c (.orRm8Imm8 rm imm) s = execOrRm8Imm8 rm imm s c := rfl
@[simp] theorem execUnder_orRm16Imm16 (rm : RM) (imm : Word) :
    execUnder c (.orRm16Imm16 rm imm) s = execOrRm16Imm16 rm imm s c := rfl
@[simp] theorem execUnder_orRm8Imm8Alt (rm : RM) (imm : Byte) :
    execUnder c (.orRm8Imm8Alt rm imm) s = execOrRm8Imm8Alt rm imm s c := rfl
@[simp] theorem execUnder_orRm16Imm8 (rm : RM) (imm : Byte) :
    execUnder c (.orRm16Imm8 rm imm) s = execOrRm16Imm8 rm imm s c := rfl
@[simp] theorem execUnder_adcRmReg (d : Dir) (w : Width) (reg : RegNum) (rm : RM) :
    execUnder c (.adcRmReg d w reg rm) s = execAdcRmReg d w reg rm s c := rfl
@[simp] theorem execUnder_adcAl (imm : Byte) : execUnder c (.adcAl imm) s = execAdcAl imm s c := rfl
@[simp] theorem execUnder_adcAx (imm : Word) : execUnder c (.adcAx imm) s = execAdcAx imm s c := rfl
@[simp] theorem execUnder_adcRm8Imm8 (rm : RM) (imm : Byte) :
    execUnder c (.adcRm8Imm8 rm imm) s = execAdcRm8Imm8 rm imm s c := rfl
@[simp] theorem execUnder_adcRm16Imm16 (rm : RM) (imm : Word) :
    execUnder c (.adcRm16Imm16 rm imm) s = execAdcRm16Imm16 rm imm s c := rfl
@[simp] theorem execUnder_adcRm8Imm8Alt (rm : RM) (imm : Byte) :
    execUnder c (.adcRm8Imm8Alt rm imm) s = execAdcRm8Imm8Alt rm imm s c := rfl
@[simp] theorem execUnder_adcRm16Imm8 (rm : RM) (imm : Byte) :
    execUnder c (.adcRm16Imm8 rm imm) s = execAdcRm16Imm8 rm imm s c := rfl
@[simp] theorem execUnder_sbbRmReg (d : Dir) (w : Width) (reg : RegNum) (rm : RM) :
    execUnder c (.sbbRmReg d w reg rm) s = execSbbRmReg d w reg rm s c := rfl
@[simp] theorem execUnder_sbbAl (imm : Byte) : execUnder c (.sbbAl imm) s = execSbbAl imm s c := rfl
@[simp] theorem execUnder_sbbAx (imm : Word) : execUnder c (.sbbAx imm) s = execSbbAx imm s c := rfl
@[simp] theorem execUnder_sbbRm8Imm8 (rm : RM) (imm : Byte) :
    execUnder c (.sbbRm8Imm8 rm imm) s = execSbbRm8Imm8 rm imm s c := rfl
@[simp] theorem execUnder_sbbRm16Imm16 (rm : RM) (imm : Word) :
    execUnder c (.sbbRm16Imm16 rm imm) s = execSbbRm16Imm16 rm imm s c := rfl
@[simp] theorem execUnder_sbbRm8Imm8Alt (rm : RM) (imm : Byte) :
    execUnder c (.sbbRm8Imm8Alt rm imm) s = execSbbRm8Imm8Alt rm imm s c := rfl
@[simp] theorem execUnder_sbbRm16Imm8 (rm : RM) (imm : Byte) :
    execUnder c (.sbbRm16Imm8 rm imm) s = execSbbRm16Imm8 rm imm s c := rfl
@[simp] theorem execUnder_andRmReg (d : Dir) (w : Width) (reg : RegNum) (rm : RM) :
    execUnder c (.andRmReg d w reg rm) s = execAndRmReg d w reg rm s c := rfl
@[simp] theorem execUnder_andAl (imm : Byte) : execUnder c (.andAl imm) s = execAndAl imm s c := rfl
@[simp] theorem execUnder_andAx (imm : Word) : execUnder c (.andAx imm) s = execAndAx imm s c := rfl
@[simp] theorem execUnder_andRm8Imm8 (rm : RM) (imm : Byte) :
    execUnder c (.andRm8Imm8 rm imm) s = execAndRm8Imm8 rm imm s c := rfl
@[simp] theorem execUnder_andRm16Imm16 (rm : RM) (imm : Word) :
    execUnder c (.andRm16Imm16 rm imm) s = execAndRm16Imm16 rm imm s c := rfl
@[simp] theorem execUnder_andRm8Imm8Alt (rm : RM) (imm : Byte) :
    execUnder c (.andRm8Imm8Alt rm imm) s = execAndRm8Imm8Alt rm imm s c := rfl
@[simp] theorem execUnder_andRm16Imm8 (rm : RM) (imm : Byte) :
    execUnder c (.andRm16Imm8 rm imm) s = execAndRm16Imm8 rm imm s c := rfl
@[simp] theorem execUnder_subRmReg (d : Dir) (w : Width) (reg : RegNum) (rm : RM) :
    execUnder c (.subRmReg d w reg rm) s = execSubRmReg d w reg rm s c := rfl
@[simp] theorem execUnder_subAl (imm : Byte) : execUnder c (.subAl imm) s = execSubAl imm s c := rfl
@[simp] theorem execUnder_subAx (imm : Word) : execUnder c (.subAx imm) s = execSubAx imm s c := rfl
@[simp] theorem execUnder_subRm8Imm8 (rm : RM) (imm : Byte) :
    execUnder c (.subRm8Imm8 rm imm) s = execSubRm8Imm8 rm imm s c := rfl
@[simp] theorem execUnder_subRm16Imm16 (rm : RM) (imm : Word) :
    execUnder c (.subRm16Imm16 rm imm) s = execSubRm16Imm16 rm imm s c := rfl
@[simp] theorem execUnder_subRm8Imm8Alt (rm : RM) (imm : Byte) :
    execUnder c (.subRm8Imm8Alt rm imm) s = execSubRm8Imm8Alt rm imm s c := rfl
@[simp] theorem execUnder_subRm16Imm8 (rm : RM) (imm : Byte) :
    execUnder c (.subRm16Imm8 rm imm) s = execSubRm16Imm8 rm imm s c := rfl
@[simp] theorem execUnder_xorRmReg (d : Dir) (w : Width) (reg : RegNum) (rm : RM) :
    execUnder c (.xorRmReg d w reg rm) s = execXorRmReg d w reg rm s c := rfl
@[simp] theorem execUnder_xorAl (imm : Byte) : execUnder c (.xorAl imm) s = execXorAl imm s c := rfl
@[simp] theorem execUnder_xorAx (imm : Word) : execUnder c (.xorAx imm) s = execXorAx imm s c := rfl
@[simp] theorem execUnder_xorRm8Imm8 (rm : RM) (imm : Byte) :
    execUnder c (.xorRm8Imm8 rm imm) s = execXorRm8Imm8 rm imm s c := rfl
@[simp] theorem execUnder_xorRm16Imm16 (rm : RM) (imm : Word) :
    execUnder c (.xorRm16Imm16 rm imm) s = execXorRm16Imm16 rm imm s c := rfl
@[simp] theorem execUnder_xorRm8Imm8Alt (rm : RM) (imm : Byte) :
    execUnder c (.xorRm8Imm8Alt rm imm) s = execXorRm8Imm8Alt rm imm s c := rfl
@[simp] theorem execUnder_xorRm16Imm8 (rm : RM) (imm : Byte) :
    execUnder c (.xorRm16Imm8 rm imm) s = execXorRm16Imm8 rm imm s c := rfl
@[simp] theorem execUnder_cmpRmReg (d : Dir) (w : Width) (reg : RegNum) (rm : RM) :
    execUnder c (.cmpRmReg d w reg rm) s = execCmpRmReg d w reg rm s c := rfl
@[simp] theorem execUnder_cmpAl (imm : Byte) : execUnder c (.cmpAl imm) s = execCmpAl imm s c := rfl
@[simp] theorem execUnder_cmpAx (imm : Word) : execUnder c (.cmpAx imm) s = execCmpAx imm s c := rfl
@[simp] theorem execUnder_cmpRm8Imm8 (rm : RM) (imm : Byte) :
    execUnder c (.cmpRm8Imm8 rm imm) s = execCmpRm8Imm8 rm imm s c := rfl
@[simp] theorem execUnder_cmpRm16Imm16 (rm : RM) (imm : Word) :
    execUnder c (.cmpRm16Imm16 rm imm) s = execCmpRm16Imm16 rm imm s c := rfl
@[simp] theorem execUnder_cmpRm8Imm8Alt (rm : RM) (imm : Byte) :
    execUnder c (.cmpRm8Imm8Alt rm imm) s = execCmpRm8Imm8Alt rm imm s c := rfl
@[simp] theorem execUnder_cmpRm16Imm8 (rm : RM) (imm : Byte) :
    execUnder c (.cmpRm16Imm8 rm imm) s = execCmpRm16Imm8 rm imm s c := rfl
@[simp] theorem execUnder_pushEs : execUnder c .pushEs s = execPushEs s c := rfl
@[simp] theorem execUnder_pushCs : execUnder c .pushCs s = execPushCs s c := rfl
@[simp] theorem execUnder_pushSs : execUnder c .pushSs s = execPushSs s c := rfl
@[simp] theorem execUnder_pushDs : execUnder c .pushDs s = execPushDs s c := rfl
@[simp] theorem execUnder_popEs : execUnder c .popEs s = execPopEs s c := rfl
@[simp] theorem execUnder_popSs : execUnder c .popSs s = execPopSs s c := rfl
@[simp] theorem execUnder_popDs : execUnder c .popDs s = execPopDs s c := rfl
@[simp] theorem execUnder_segEs (rest : Instr) :
    execUnder c (.segEs rest) s = execUnder (c.push (.seg .es)) rest s := rfl
@[simp] theorem execUnder_segCs (rest : Instr) :
    execUnder c (.segCs rest) s = execUnder (c.push (.seg .cs)) rest s := rfl
@[simp] theorem execUnder_segSs (rest : Instr) :
    execUnder c (.segSs rest) s = execUnder (c.push (.seg .ss)) rest s := rfl
@[simp] theorem execUnder_segDs (rest : Instr) :
    execUnder c (.segDs rest) s = execUnder (c.push (.seg .ds)) rest s := rfl
@[simp] theorem execUnder_daa : execUnder c .daa s = execDaa s c := rfl
@[simp] theorem execUnder_das : execUnder c .das s = execDas s c := rfl
@[simp] theorem execUnder_aaa : execUnder c .aaa s = execAaa s c := rfl
@[simp] theorem execUnder_aas : execUnder c .aas s = execAas s c := rfl
@[simp] theorem execUnder_incReg (r : RegNum) : execUnder c (.incReg r) s = execIncReg r s c := rfl
@[simp] theorem execUnder_decReg (r : RegNum) : execUnder c (.decReg r) s = execDecReg r s c := rfl
@[simp] theorem execUnder_pushReg (r : RegNum) : execUnder c (.pushReg r) s = execPushReg r s c := rfl
@[simp] theorem execUnder_popReg (r : RegNum) : execUnder c (.popReg r) s = execPopReg r s c := rfl
@[simp] theorem execUnder_jo (rel : Byte) : execUnder c (.jo rel) s = execJo rel s c := rfl
@[simp] theorem execUnder_jno (rel : Byte) : execUnder c (.jno rel) s = execJno rel s c := rfl
@[simp] theorem execUnder_jb (rel : Byte) : execUnder c (.jb rel) s = execJb rel s c := rfl
@[simp] theorem execUnder_jnb (rel : Byte) : execUnder c (.jnb rel) s = execJnb rel s c := rfl
@[simp] theorem execUnder_jz (rel : Byte) : execUnder c (.jz rel) s = execJz rel s c := rfl
@[simp] theorem execUnder_jnz (rel : Byte) : execUnder c (.jnz rel) s = execJnz rel s c := rfl
@[simp] theorem execUnder_jbe (rel : Byte) : execUnder c (.jbe rel) s = execJbe rel s c := rfl
@[simp] theorem execUnder_jnbe (rel : Byte) : execUnder c (.jnbe rel) s = execJnbe rel s c := rfl
@[simp] theorem execUnder_js (rel : Byte) : execUnder c (.js rel) s = execJs rel s c := rfl
@[simp] theorem execUnder_jns (rel : Byte) : execUnder c (.jns rel) s = execJns rel s c := rfl
@[simp] theorem execUnder_jp (rel : Byte) : execUnder c (.jp rel) s = execJp rel s c := rfl
@[simp] theorem execUnder_jnp (rel : Byte) : execUnder c (.jnp rel) s = execJnp rel s c := rfl
@[simp] theorem execUnder_jl (rel : Byte) : execUnder c (.jl rel) s = execJl rel s c := rfl
@[simp] theorem execUnder_jnl (rel : Byte) : execUnder c (.jnl rel) s = execJnl rel s c := rfl
@[simp] theorem execUnder_jle (rel : Byte) : execUnder c (.jle rel) s = execJle rel s c := rfl
@[simp] theorem execUnder_jnle (rel : Byte) : execUnder c (.jnle rel) s = execJnle rel s c := rfl
@[simp] theorem execUnder_testRmReg (w : Width) (reg : RegNum) (rm : RM) :
    execUnder c (.testRmReg w reg rm) s = execTestRmReg w reg rm s c := rfl
@[simp] theorem execUnder_xchgRmReg (w : Width) (reg : RegNum) (rm : RM) :
    execUnder c (.xchgRmReg w reg rm) s = execXchgRmReg w reg rm s c := rfl
@[simp] theorem execUnder_movRmReg (d : Dir) (w : Width) (reg : RegNum) (rm : RM) :
    execUnder c (.movRmReg d w reg rm) s = execMovRmReg d w reg rm s c := rfl
@[simp] theorem execUnder_movRmSreg (sr : SReg) (rm : RM) :
    execUnder c (.movRmSreg sr rm) s = execMovRmSreg sr rm s c := rfl
@[simp] theorem execUnder_lea (reg : RegNum) (rm : RM) : execUnder c (.lea reg rm) s = execLea reg rm s c := rfl
@[simp] theorem execUnder_movSregRm (sr : SReg) (rm : RM) :
    execUnder c (.movSregRm sr rm) s = execMovSregRm sr rm s c := rfl
@[simp] theorem execUnder_popRm (rm : RM) : execUnder c (.popRm rm) s = execPopRm rm s c := rfl
@[simp] theorem execUnder_nop : execUnder c .nop s = execNop s c := rfl
@[simp] theorem execUnder_xchgAxCx : execUnder c .xchgAxCx s = execXchgAxCx s c := rfl
@[simp] theorem execUnder_xchgAxDx : execUnder c .xchgAxDx s = execXchgAxDx s c := rfl
@[simp] theorem execUnder_xchgAxBx : execUnder c .xchgAxBx s = execXchgAxBx s c := rfl
@[simp] theorem execUnder_xchgAxSp : execUnder c .xchgAxSp s = execXchgAxSp s c := rfl
@[simp] theorem execUnder_xchgAxBp : execUnder c .xchgAxBp s = execXchgAxBp s c := rfl
@[simp] theorem execUnder_xchgAxSi : execUnder c .xchgAxSi s = execXchgAxSi s c := rfl
@[simp] theorem execUnder_xchgAxDi : execUnder c .xchgAxDi s = execXchgAxDi s c := rfl
@[simp] theorem execUnder_cbw : execUnder c .cbw s = execCbw s c := rfl
@[simp] theorem execUnder_cwd : execUnder c .cwd s = execCwd s c := rfl
@[simp] theorem execUnder_callFar (off : Word) (seg : Word) :
    execUnder c (.callFar off seg) s = execCallFar off seg s c := rfl
@[simp] theorem execUnder_wait : execUnder c .wait s = execWait s c := rfl
@[simp] theorem execUnder_pushf : execUnder c .pushf s = execPushf s c := rfl
@[simp] theorem execUnder_popf : execUnder c .popf s = execPopf s c := rfl
@[simp] theorem execUnder_sahf : execUnder c .sahf s = execSahf s c := rfl
@[simp] theorem execUnder_lahf : execUnder c .lahf s = execLahf s c := rfl
@[simp] theorem execUnder_movAccMoffs (w : Width) (off : Word) :
    execUnder c (.movAccMoffs w off) s = execMovAccMoffs w off s c := rfl
@[simp] theorem execUnder_movMoffsAcc (w : Width) (off : Word) :
    execUnder c (.movMoffsAcc w off) s = execMovMoffsAcc w off s c := rfl
@[simp] theorem execUnder_movs (w : Width) : execUnder c (.movs w) s = execMovs w s c := rfl
@[simp] theorem execUnder_cmps (w : Width) : execUnder c (.cmps w) s = execCmps w s c := rfl
@[simp] theorem execUnder_testAl (imm : Byte) : execUnder c (.testAl imm) s = execTestAl imm s c := rfl
@[simp] theorem execUnder_testAx (imm : Word) : execUnder c (.testAx imm) s = execTestAx imm s c := rfl
@[simp] theorem execUnder_stos (w : Width) : execUnder c (.stos w) s = execStos w s c := rfl
@[simp] theorem execUnder_lods (w : Width) : execUnder c (.lods w) s = execLods w s c := rfl
@[simp] theorem execUnder_scas (w : Width) : execUnder c (.scas w) s = execScas w s c := rfl
@[simp] theorem execUnder_movReg8Imm (r : RegNum) (imm : Byte) :
    execUnder c (.movReg8Imm r imm) s = execMovReg8Imm r imm s c := rfl
@[simp] theorem execUnder_movReg16Imm (r : RegNum) (imm : Word) :
    execUnder c (.movReg16Imm r imm) s = execMovReg16Imm r imm s c := rfl
@[simp] theorem execUnder_retImm (imm : Word) : execUnder c (.retImm imm) s = execRetImm imm s c := rfl
@[simp] theorem execUnder_ret : execUnder c .ret s = execRet s c := rfl
@[simp] theorem execUnder_les (reg : RegNum) (rm : RM) : execUnder c (.les reg rm) s = execLes reg rm s c := rfl
@[simp] theorem execUnder_lds (reg : RegNum) (rm : RM) : execUnder c (.lds reg rm) s = execLds reg rm s c := rfl
@[simp] theorem execUnder_movRm8Imm8 (rm : RM) (imm : Byte) :
    execUnder c (.movRm8Imm8 rm imm) s = execMovRm8Imm8 rm imm s c := rfl
@[simp] theorem execUnder_movRm16Imm16 (rm : RM) (imm : Word) :
    execUnder c (.movRm16Imm16 rm imm) s = execMovRm16Imm16 rm imm s c := rfl
@[simp] theorem execUnder_retfImm (imm : Word) : execUnder c (.retfImm imm) s = execRetfImm imm s c := rfl
@[simp] theorem execUnder_retf : execUnder c .retf s = execRetf s c := rfl
@[simp] theorem execUnder_int3 : execUnder c .int3 s = execInt3 s c := rfl
@[simp] theorem execUnder_intImm (imm : Byte) : execUnder c (.intImm imm) s = execIntImm imm s c := rfl
@[simp] theorem execUnder_into : execUnder c .into s = execInto s c := rfl
@[simp] theorem execUnder_iret : execUnder c .iret s = execIret s c := rfl
@[simp] theorem execUnder_rolRm (v : Count) (w : Width) (rm : RM) :
    execUnder c (.rolRm v w rm) s = execRolRm v w rm s c := rfl
@[simp] theorem execUnder_rorRm (v : Count) (w : Width) (rm : RM) :
    execUnder c (.rorRm v w rm) s = execRorRm v w rm s c := rfl
@[simp] theorem execUnder_rclRm (v : Count) (w : Width) (rm : RM) :
    execUnder c (.rclRm v w rm) s = execRclRm v w rm s c := rfl
@[simp] theorem execUnder_rcrRm (v : Count) (w : Width) (rm : RM) :
    execUnder c (.rcrRm v w rm) s = execRcrRm v w rm s c := rfl
@[simp] theorem execUnder_shlRm (v : Count) (w : Width) (rm : RM) :
    execUnder c (.shlRm v w rm) s = execShlRm v w rm s c := rfl
@[simp] theorem execUnder_shrRm (v : Count) (w : Width) (rm : RM) :
    execUnder c (.shrRm v w rm) s = execShrRm v w rm s c := rfl
@[simp] theorem execUnder_sarRm (v : Count) (w : Width) (rm : RM) :
    execUnder c (.sarRm v w rm) s = execSarRm v w rm s c := rfl
@[simp] theorem execUnder_aam (imm : Byte) : execUnder c (.aam imm) s = execAam imm s c := rfl
@[simp] theorem execUnder_aad (imm : Byte) : execUnder c (.aad imm) s = execAad imm s c := rfl
@[simp] theorem execUnder_xlat : execUnder c .xlat s = execXlat s c := rfl
@[simp] theorem execUnder_esc (hi : RegNum) (lo : RegNum) (rm : RM) :
    execUnder c (.esc hi lo rm) s = execEsc hi lo rm s c := rfl
@[simp] theorem execUnder_loopnz (rel : Byte) : execUnder c (.loopnz rel) s = execLoopnz rel s c := rfl
@[simp] theorem execUnder_loopz (rel : Byte) : execUnder c (.loopz rel) s = execLoopz rel s c := rfl
@[simp] theorem execUnder_loop (rel : Byte) : execUnder c (.loop rel) s = execLoop rel s c := rfl
@[simp] theorem execUnder_jcxz (rel : Byte) : execUnder c (.jcxz rel) s = execJcxz rel s c := rfl
@[simp] theorem execUnder_inImm (w : Width) (port : Byte) :
    execUnder c (.inImm w port) s = execInImm w port s c := rfl
@[simp] theorem execUnder_outImm (w : Width) (port : Byte) :
    execUnder c (.outImm w port) s = execOutImm w port s c := rfl
@[simp] theorem execUnder_callRel (rel : Word) : execUnder c (.callRel rel) s = execCallRel rel s c := rfl
@[simp] theorem execUnder_jmpRel (rel : Word) : execUnder c (.jmpRel rel) s = execJmpRel rel s c := rfl
@[simp] theorem execUnder_jmpFar (off : Word) (seg : Word) :
    execUnder c (.jmpFar off seg) s = execJmpFar off seg s c := rfl
@[simp] theorem execUnder_jmpShort (rel : Byte) : execUnder c (.jmpShort rel) s = execJmpShort rel s c := rfl
@[simp] theorem execUnder_inDx (w : Width) : execUnder c (.inDx w) s = execInDx w s c := rfl
@[simp] theorem execUnder_outDx (w : Width) : execUnder c (.outDx w) s = execOutDx w s c := rfl
@[simp] theorem execUnder_lock (rest : Instr) : execUnder c (.lock rest) s = execUnder (c.push .lock) rest s := rfl
@[simp] theorem execUnder_repne (rest : Instr) : execUnder c (.repne rest) s = execUnder (c.push .repne) rest s := rfl
@[simp] theorem execUnder_rep (rest : Instr) : execUnder c (.rep rest) s = execUnder (c.push .rep) rest s := rfl
@[simp] theorem execUnder_hlt : execUnder c .hlt s = execHlt s c := rfl
@[simp] theorem execUnder_cmc : execUnder c .cmc s = execCmc s c := rfl
@[simp] theorem execUnder_testRm8Imm8 (rm : RM) (imm : Byte) :
    execUnder c (.testRm8Imm8 rm imm) s = execTestRm8Imm8 rm imm s c := rfl
@[simp] theorem execUnder_testRm16Imm16 (rm : RM) (imm : Word) :
    execUnder c (.testRm16Imm16 rm imm) s = execTestRm16Imm16 rm imm s c := rfl
@[simp] theorem execUnder_notRm (w : Width) (rm : RM) : execUnder c (.notRm w rm) s = execNotRm w rm s c := rfl
@[simp] theorem execUnder_negRm (w : Width) (rm : RM) : execUnder c (.negRm w rm) s = execNegRm w rm s c := rfl
@[simp] theorem execUnder_mulRm (w : Width) (rm : RM) : execUnder c (.mulRm w rm) s = execMulRm w rm s c := rfl
@[simp] theorem execUnder_imulRm (w : Width) (rm : RM) : execUnder c (.imulRm w rm) s = execImulRm w rm s c := rfl
@[simp] theorem execUnder_divRm (w : Width) (rm : RM) : execUnder c (.divRm w rm) s = execDivRm w rm s c := rfl
@[simp] theorem execUnder_idivRm (w : Width) (rm : RM) : execUnder c (.idivRm w rm) s = execIdivRm w rm s c := rfl
@[simp] theorem execUnder_clc : execUnder c .clc s = execClc s c := rfl
@[simp] theorem execUnder_stc : execUnder c .stc s = execStc s c := rfl
@[simp] theorem execUnder_cli : execUnder c .cli s = execCli s c := rfl
@[simp] theorem execUnder_sti : execUnder c .sti s = execSti s c := rfl
@[simp] theorem execUnder_cld : execUnder c .cld s = execCld s c := rfl
@[simp] theorem execUnder_std : execUnder c .std s = execStd s c := rfl
@[simp] theorem execUnder_incRm (w : Width) (rm : RM) : execUnder c (.incRm w rm) s = execIncRm w rm s c := rfl
@[simp] theorem execUnder_decRm (w : Width) (rm : RM) : execUnder c (.decRm w rm) s = execDecRm w rm s c := rfl
@[simp] theorem execUnder_callRm (rm : RM) : execUnder c (.callRm rm) s = execCallRm rm s c := rfl
@[simp] theorem execUnder_callFarRm (rm : RM) : execUnder c (.callFarRm rm) s = execCallFarRm rm s c := rfl
@[simp] theorem execUnder_jmpRm (rm : RM) : execUnder c (.jmpRm rm) s = execJmpRm rm s c := rfl
@[simp] theorem execUnder_jmpFarRm (rm : RM) : execUnder c (.jmpFarRm rm) s = execJmpFarRm rm s c := rfl
@[simp] theorem execUnder_pushRm (rm : RM) : execUnder c (.pushRm rm) s = execPushRm rm s c := rfl

end Sys2Proof.Machine
end

