-- ==== Sys2Proof/Laws/Word.lean ====
section
/-! SUPPORT. The laws of the byte and word helpers. -/

namespace Sys2Proof

theorem getLsbD_mkWord (h l : Byte) (i : Nat) :
    (mkWord h l).getLsbD i = if i < 8 then l.getLsbD i else h.getLsbD (i - 8) :=
  BitVec.getLsbD_append

theorem getLsbD_loByte (v : Word) (i : Nat) : (loByte v).getLsbD i = (decide (i < 8) && v.getLsbD i) := by
  simp [loByte]

theorem getLsbD_hiByte (v : Word) (i : Nat) : (hiByte v).getLsbD i = (decide (i < 8) && v.getLsbD (8 + i)) := by
  simp [hiByte]

@[simp] theorem mkWord_hi_lo (v : Word) : mkWord (hiByte v) (loByte v) = v := by
  apply BitVec.eq_of_getLsbD_eq
  intro i hi
  by_cases h : i < 8
  · simp [getLsbD_mkWord, h, loByte]
  · have h8 : i - 8 < 8 := by omega
    simp [getLsbD_mkWord, h, hiByte, h8]
    congr 1
    omega

@[simp] theorem loByte_mkWord (h l : Byte) : loByte (mkWord h l) = l := by
  apply BitVec.eq_of_getLsbD_eq
  intro i hi
  simp [loByte, getLsbD_mkWord, hi]

@[simp] theorem hiByte_mkWord (h l : Byte) : hiByte (mkWord h l) = h := by
  apply BitVec.eq_of_getLsbD_eq
  intro i hi
  simp [hiByte, getLsbD_mkWord, hi]

end Sys2Proof
end

