-- ==== Sys2Proof/Laws/Decode.lean ====
section
/-! SUPPORT. The laws of the decoder's fields, of the ModRM byte and of the operand readers. -/

namespace Sys2Proof

@[simp] theorem RegNum.ofBits_bits (r : RegNum) : RegNum.ofBits r.bits = r := by cases r <;> rfl

@[simp] theorem RegNum.bits_ofBits (b : BitVec 3) : (RegNum.ofBits b).bits = b := by revert b; decide

@[simp] theorem Base.ofBits_bits (b : Base) : Base.ofBits b.bits = b := by cases b <;> rfl

@[simp] theorem Base.bits_ofBits (b : BitVec 3) : (Base.ofBits b).bits = b := by revert b; decide

theorem Base.bits_eq_six (b : Base) : (b.bits == 6) = decide (b = .bp) := by cases b <;> rfl

theorem modRMByte_mod (mod : BitVec 2) (reg rm : BitVec 3) : (modRMByte mod reg rm).extractLsb' 6 2 = mod := by
  revert mod reg rm; decide

theorem modRMByte_reg (mod : BitVec 2) (reg rm : BitVec 3) : (modRMByte mod reg rm).extractLsb' 3 3 = reg := by
  revert mod reg rm; decide

theorem modRMByte_rm (mod : BitVec 2) (reg rm : BitVec 3) : (modRMByte mod reg rm).extractLsb' 0 3 = rm := by
  revert mod reg rm; decide

/-- A ModRM byte is its three fields (R106). -/
theorem modRMByte_fields (m : Byte) :
    modRMByte (m.extractLsb' 6 2) (m.extractLsb' 3 3) (m.extractLsb' 0 3) = m := by
  revert m; decide

/-- The mod field of an operand (R108 to R111). -/
def RM.mod : RM → BitVec 2
  | .reg _ => 3
  | .direct _ => 0
  | .mem _ .none => 0
  | .mem _ (.d8 _) => 1
  | .mem _ (.d16 _) => 2

/-- The rm field of an operand (R108 to R111). -/
def RM.rmBits : RM → BitVec 3
  | .reg r => r.bits
  | .direct _ => 6
  | .mem b _ => b.bits

/-- The displacement bytes of an operand (R112). -/
def RM.dispBytes : RM → List Byte
  | .reg _ => []
  | .direct a => wordBytes a
  | .mem _ .none => []
  | .mem _ (.d8 d) => [d]
  | .mem _ (.d16 d) => wordBytes d

theorem encodeModRM_eq (reg : RegNum) (rm : RM) :
    encodeModRM reg rm = modRMByte rm.mod reg.bits rm.rmBits :: rm.dispBytes := by
  rcases rm with _ | _ | ⟨_, _ | _ | _⟩ <;> rfl

@[simp] theorem withByte_cons (b : Byte) (r : List Byte) (k : Byte → List Byte → DecodeResult) :
    withByte (b :: r) k = k b r := rfl

@[simp] theorem withWord_wordBytes (v : Word) (r : List Byte) (k : Word → List Byte → DecodeResult) :
    withWord (wordBytes v ++ r) k = k v r := by
  show k (mkWord (hiByte v) (loByte v)) r = k v r
  rw [mkWord_hi_lo]

/-- The displacement reader gives the operand back (R108 to R112). -/
theorem withDisp_dispBytes (rm : RM) (h : rm.encodable = true) (r : List Byte) (k : RM → List Byte → DecodeResult) :
    withDisp rm.mod rm.rmBits (rm.dispBytes ++ r) k = k rm r := by
  rcases rm with q | a | ⟨b, _ | d | d⟩
  · show k (.reg (RegNum.ofBits q.bits)) r = _
    rw [RegNum.ofBits_bits]
  · show withWord (wordBytes a ++ r) (fun a r => k (.direct a) r) = _
    rw [withWord_wordBytes]
  · show (if b.bits == 6 then _ else k (.mem (Base.ofBits b.bits) .none) r) = _
    rw [Base.bits_eq_six, Base.ofBits_bits, if_neg]
    intro hb
    rw [of_decide_eq_true hb] at h
    exact absurd h (by decide)
  · show k (.mem (Base.ofBits b.bits) (.d8 d)) r = _
    rw [Base.ofBits_bits]
  · show withWord (wordBytes d ++ r) (fun d r => k (.mem (Base.ofBits b.bits) (.d16 d)) r) = _
    rw [withWord_wordBytes, Base.ofBits_bits]

/-- The ModRM reader gives the fields and the operand back (R106). -/
theorem withModRM_encodeModRM (op : Byte) (reg : RegNum) (rm : RM) (h : rm.encodable = true)
    (hl : modRMIllegal op rm.mod reg.bits = false) (r : List Byte) (k : ModRM → List Byte → DecodeResult) :
    withModRM op (encodeModRM reg rm ++ r) k = k ⟨modRMByte rm.mod reg.bits rm.rmBits, rm⟩ r := by
  rw [encodeModRM_eq]
  show (if modRMIllegal op _ _ then _ else withDisp _ _ (rm.dispBytes ++ r) _) = _
  rw [modRMByte_mod, modRMByte_reg, modRMByte_rm, hl]
  rw [if_neg (by decide), withDisp_dispBytes rm h r]

@[simp] theorem ModRM.reg_modRMByte (mod : BitVec 2) (reg : RegNum) (rb : BitVec 3) (rm : RM) :
    ModRM.reg ⟨modRMByte mod reg.bits rb, rm⟩ = reg := by
  rw [ModRM.reg, modRMByte_reg, RegNum.ofBits_bits]

@[simp] theorem ModRM.sreg_modRMByte (mod : BitVec 2) (sr : SReg) (rb : BitVec 3) (rm : RM) :
    ModRM.sreg ⟨modRMByte mod sr.num.bits rb, rm⟩ = sr := by
  rw [ModRM.sreg]
  have h : ∀ (mod : BitVec 2) (rb : BitVec 3), (modRMByte mod sr.num.bits rb).extractLsb' 3 2 = sr.num.bits.setWidth 2 := by
    cases sr <;> decide
  rw [h]
  cases sr <;> rfl

end Sys2Proof
end

