-- ==== Sys2Proof/Laws/Divide.lean ====
section
/-! SUPPORT. The outcomes of the two divisions (R262, R263), and the quotient and remainder by their law. -/

namespace Sys2Proof.Machine

variable {n : Nat} (num : BitVec (n + n)) (src : BitVec n)

theorem unsignedDivide_zero (h : src.toNat = 0) : unsignedDivide num src = .error .divideByZero := by
  have h0 : src = 0 := BitVec.eq_of_toNat_eq (by simpa using h)
  simp [unsignedDivide, h0]

theorem unsignedDivide_fits (h : src.toNat ≠ 0) (hq : num.toNat / src.toNat < 2 ^ n) :
    unsignedDivide num src =
      .ok (BitVec.ofNat n (num.toNat / src.toNat), BitVec.ofNat n (num.toNat % src.toNat)) := by
  have h0 : ¬ src = 0 := fun h2 => h (by rw [h2]; simp)
  rw [unsignedDivide, if_neg h0, if_neg (Nat.not_le.2 hq)]

theorem unsignedDivide_large (h : src.toNat ≠ 0) (hq : 2 ^ n ≤ num.toNat / src.toNat) :
    unsignedDivide num src = .error .divideOverflow := by
  have h0 : ¬ src = 0 := fun h2 => h (by rw [h2]; simp)
  rw [unsignedDivide, if_neg h0, if_pos hq]

theorem signedDivide_zero (h : src.toInt = 0) : signedDivide num src = .error .divideByZero := by
  have h0 : src = 0 := BitVec.eq_of_toInt_eq (by simpa using h)
  simp [signedDivide, h0]

theorem signedDivide_fits (h : src.toInt ≠ 0) (h1 : -(2 ^ (n - 1) - 1) ≤ num.toInt.tdiv src.toInt)
    (h2 : num.toInt.tdiv src.toInt ≤ 2 ^ (n - 1) - 1) :
    signedDivide num src =
      .ok (BitVec.ofInt n (num.toInt.tdiv src.toInt), BitVec.ofInt n (num.toInt.tmod src.toInt)) := by
  have h0 : ¬ src = 0 := fun h2 => h (by rw [h2]; simp)
  simp only [signedDivide]
  rw [if_neg h0, if_neg]
  omega

theorem signedDivide_large (h : src.toInt ≠ 0)
    (hq : num.toInt.tdiv src.toInt < -(2 ^ (n - 1) - 1) ∨ 2 ^ (n - 1) - 1 < num.toInt.tdiv src.toInt) :
    signedDivide num src = .error .divideOverflow := by
  have h0 : ¬ src = 0 := fun h2 => h (by rw [h2]; simp)
  simp only [signedDivide]
  rw [if_neg h0, if_pos]
  omega

/-- "n == q*s + r, |r| < |s|, r == 0 or sign(r) == sign(n)" determines the truncated quotient and remainder (R263). -/
theorem truncated_unique {n d q r : Int} (h : n = q * d + r) (hr : r.natAbs < d.natAbs) (h1 : 0 ≤ n → 0 ≤ r)
    (h2 : n ≤ 0 → r ≤ 0) : n.tdiv d = q ∧ n.tmod d = r := by
  have hd : d ≠ 0 := by rintro rfl; simp at hr
  have e := Int.mul_tdiv_add_tmod n d
  have hm : (n.tmod d).natAbs < d.natAbs := by
    rw [Int.natAbs_tmod]; exact Nat.mod_lt _ (by omega)
  have hs1 : 0 ≤ n → 0 ≤ n.tmod d := fun hn => Int.tmod_nonneg d hn
  have hs2 : n ≤ 0 → n.tmod d ≤ 0 := fun hn => by
    have := Int.tmod_nonneg d (show 0 ≤ -n by omega)
    rw [Int.neg_tmod] at this; omega
  have hz : (n.tdiv d - q) * d = r - n.tmod d := by
    rw [Int.sub_mul, Int.mul_comm (n.tdiv d) d]; omega
  have hlt : (r - n.tmod d).natAbs < d.natAbs := by omega
  rw [← hz, Int.natAbs_mul] at hlt
  have h0 : (n.tdiv d - q).natAbs = 0 := by
    by_contra hc
    have : d.natAbs ≤ (n.tdiv d - q).natAbs * d.natAbs := Nat.le_mul_of_pos_left _ (by omega)
    omega
  have hq : n.tdiv d = q := by omega
  refine ⟨hq, ?_⟩
  rw [hq, Int.sub_self, Int.zero_mul] at hz
  omega

end Sys2Proof.Machine
end

