-- ==== Sys2Proof/Laws/Flags.lean ====
section
/-! SUPPORT. The laws of FLAGS: what each operation leaves in each of the sixteen bits. -/

namespace Sys2Proof.Machine

theorem Flag.bit_lt (f : Flag) : f.bit < 16 := by cases f <;> decide

theorem Flag.bit_inj {f g : Flag} (h : f.bit = g.bit) : f = g := by
  cases f <;> cases g <;> first | rfl | exact absurd h (by decide)

/-- A single-flag write changes its one bit (R31). -/
theorem getLsbD_setFlag (fl : Word) (f : Flag) (b : Bool) (k : Nat) :
    (setFlag fl f b).getLsbD k = if k = f.bit then b else fl.getLsbD k := by
  have hf := f.bit_lt
  cases b
  · simp only [setFlag, Flag.mask, Bool.false_eq_true, if_false, BitVec.getLsbD_and, BitVec.getLsbD_not,
      BitVec.getLsbD_twoPow]
    by_cases hk : k = f.bit
    · subst hk; simp [hf]
    · have h2 : ¬ f.bit = k := fun h => hk h.symm
      by_cases h16 : k < 16
      · simp [hk, h2, h16]
      · simp [hk, h2, BitVec.getLsbD_of_ge fl k (by omega)]
  · simp only [setFlag, Flag.mask, if_true, BitVec.getLsbD_or, BitVec.getLsbD_twoPow]
    by_cases hk : k = f.bit
    · subst hk; simp [hf]
    · have h2 : ¬ f.bit = k := fun h => hk h.symm
      simp [hk, h2]

/-- Reading a flag after a single-flag write (R31, R37). -/
theorem getFlag_setFlag (fl : Word) (f g : Flag) (b : Bool) :
    getFlag (setFlag fl f b) g = if g = f then b else getFlag fl g := by
  simp only [getFlag, getLsbD_setFlag]
  by_cases h : g = f
  · simp [h]
  · have : ¬ g.bit = f.bit := fun hb => h (Flag.bit_inj hb)
    simp [h, this]

@[simp] theorem getFlag_setFlag_same (fl : Word) (f : Flag) (b : Bool) : getFlag (setFlag fl f b) f = b := by
  simp [getFlag_setFlag]

/-- Undefined flags take their own bits of the free value; the other bits stay (R38). -/
theorem getLsbD_undefFlags (free fl : Word) (fs : List Flag) (k : Nat) :
    (undefFlags free fs fl).getLsbD k = if k ∈ fs.map Flag.bit then free.getLsbD k else fl.getLsbD k := by
  unfold undefFlags
  induction fs generalizing fl with
  | nil => simp
  | cons f fs ih =>
    rw [List.foldl_cons, ih, undefFlag, getLsbD_setFlag]
    by_cases h1 : k = f.bit
    · subst h1; simp [getFlag]
    · simp [h1]

/-- POPF, IRET and SAHF replace the masked bits (R217, R219, R388). -/
theorem getLsbD_loadFlags (mask v fl : Word) (k : Nat) :
    (loadFlags mask v fl).getLsbD k = if mask.getLsbD k then v.getLsbD k else fl.getLsbD k := by
  simp only [loadFlags, BitVec.getLsbD_or, BitVec.getLsbD_and, BitVec.getLsbD_not]
  by_cases h16 : k < 16
  · cases hm : mask.getLsbD k <;> simp [h16]
  · simp [BitVec.getLsbD_of_ge fl k (by omega), BitVec.getLsbD_of_ge v k (by omega),
      BitVec.getLsbD_of_ge mask k (by omega)]

/-- SF, ZF and PF of a result; the other bits stay. -/
theorem getLsbD_setSZP {n : Nat} (r : BitVec n) (fl : Word) (k : Nat) :
    (setSZP r fl).getLsbD k =
      if k = 2 then parity8 r else if k = 6 then r == 0 else if k = 7 then r.msb else fl.getLsbD k := by
  simp only [setSZP, getLsbD_setFlag, Flag.bit]
  rfl

theorem getLsbD_addFlags {n : Nat} (a b : BitVec n) (c : Bool) (fl : Word) (k : Nat) :
    (addFlags a b c fl).getLsbD k =
      if k = 2 then parity8 (addResult a b c)
      else if k = 6 then addResult a b c == 0
      else if k = 7 then (addResult a b c).msb
      else if k = 11 then ((a ^^^ addResult a b c) &&& (b ^^^ addResult a b c)).msb
      else if k = 4 then decide (0xF < nibble a + nibble b + c.toNat)
      else if k = 0 then decide (2 ^ n ≤ a.toNat + b.toNat + c.toNat)
      else fl.getLsbD k := by
  simp only [addFlags, getLsbD_setSZP, getLsbD_setFlag, Flag.bit]
  rfl

theorem getLsbD_subFlags {n : Nat} (a b : BitVec n) (c : Bool) (fl : Word) (k : Nat) :
    (subFlags a b c fl).getLsbD k =
      if k = 2 then parity8 (subResult a b c)
      else if k = 6 then subResult a b c == 0
      else if k = 7 then (subResult a b c).msb
      else if k = 11 then ((a ^^^ b) &&& (a ^^^ subResult a b c)).msb
      else if k = 4 then decide ((nibble a : Int) - nibble b - c.toNat < 0)
      else if k = 0 then decide ((a.toNat : Int) - b.toNat - c.toNat < 0)
      else fl.getLsbD k := by
  simp only [subFlags, getLsbD_setSZP, getLsbD_setFlag, Flag.bit]
  rfl

theorem getLsbD_logicFlags {n : Nat} (r : BitVec n) (fl : Word) (k : Nat) :
    (logicFlags r fl).getLsbD k =
      if k = 2 then parity8 r else if k = 6 then r == 0 else if k = 7 then r.msb
      else if k = 11 then false else if k = 0 then false else fl.getLsbD k := by
  simp only [logicFlags, getLsbD_setSZP, getLsbD_setFlag, Flag.bit]
  rfl

/-- The flags of a shift or rotate of count at least 1, before the undefined ones are drawn. -/
theorem getLsbD_shiftFlags {n : Nat} (op : ShiftOp) (c : Nat) (orig : BitVec n) (x : Bool × BitVec n) (fl : Word)
    (k : Nat) :
    (op.flags c orig x fl).getLsbD k =
      if c = 1 ∧ k = 11 then op.overflow orig x
      else if op.isShift ∧ k = 2 then parity8 x.2
      else if op.isShift ∧ k = 6 then x.2 == 0
      else if op.isShift ∧ k = 7 then x.2.msb
      else if k = 0 then x.1
      else fl.getLsbD k := by
  simp only [ShiftOp.flags]
  by_cases h1 : c = 1 <;> cases h2 : op.isShift <;>
    simp [h1, getLsbD_setFlag, getLsbD_setSZP, Flag.bit] <;> rfl

/-- No flag operation writes a reserved bit: only the bits of `flagMask` differ (R34). -/
def SameReserved (fl gl : Word) : Prop := ∀ k, flagMask.getLsbD k = false → gl.getLsbD k = fl.getLsbD k

theorem SameReserved.rfl {fl : Word} : SameReserved fl fl := fun _ _ => Eq.refl _

theorem SameReserved.trans {a b c : Word} (h1 : SameReserved a b) (h2 : SameReserved b c) : SameReserved a c :=
  fun k hk => (h2 k hk).trans (h1 k hk)

theorem Flag.bit_defined (f : Flag) : flagMask.getLsbD f.bit = true := by cases f <;> decide

theorem sameReserved_setFlag (fl : Word) (f : Flag) (b : Bool) : SameReserved fl (setFlag fl f b) := by
  intro k hk
  rw [getLsbD_setFlag, if_neg]
  intro h
  rw [h, f.bit_defined] at hk
  exact absurd hk (by decide)

theorem sameReserved_undefFlags (free fl : Word) (fs : List Flag) : SameReserved fl (undefFlags free fs fl) := by
  intro k hk
  rw [getLsbD_undefFlags, if_neg]
  intro h
  obtain ⟨f, -, rfl⟩ := List.mem_map.1 h
  rw [f.bit_defined] at hk
  exact absurd hk (by decide)

theorem sameReserved_loadFlags (v fl : Word) : SameReserved fl (loadFlags flagMask v fl) := by
  intro k hk
  simp [getLsbD_loadFlags, hk]

theorem sameReserved_loadLow (v fl : Word) : SameReserved fl (loadFlags lowFlagMask v fl) := by
  intro k hk
  have h : lowFlagMask.getLsbD k = false := by
    have : lowFlagMask = lowFlagMask &&& flagMask := by decide
    rw [this, BitVec.getLsbD_and, hk, Bool.and_false]
  simp [getLsbD_loadFlags, h]

theorem sameReserved_setSZP {n : Nat} (r : BitVec n) (fl : Word) : SameReserved fl (setSZP r fl) :=
  ((sameReserved_setFlag _ _ _).trans (sameReserved_setFlag _ _ _)).trans (sameReserved_setFlag _ _ _)

theorem sameReserved_addFlags {n : Nat} (a b : BitVec n) (c : Bool) (fl : Word) :
    SameReserved fl (addFlags a b c fl) :=
  (((sameReserved_setFlag _ _ _).trans (sameReserved_setFlag _ _ _)).trans (sameReserved_setFlag _ _ _)).trans
    (sameReserved_setSZP _ _)

theorem sameReserved_subFlags {n : Nat} (a b : BitVec n) (c : Bool) (fl : Word) :
    SameReserved fl (subFlags a b c fl) :=
  (((sameReserved_setFlag _ _ _).trans (sameReserved_setFlag _ _ _)).trans (sameReserved_setFlag _ _ _)).trans
    (sameReserved_setSZP _ _)

theorem sameReserved_logicFlags {n : Nat} (r : BitVec n) (fl : Word) : SameReserved fl (logicFlags r fl) :=
  ((sameReserved_setFlag _ _ _).trans (sameReserved_setFlag _ _ _)).trans (sameReserved_setSZP _ _)

theorem sameReserved_shiftFlags {n : Nat} (op : ShiftOp) (c : Nat) (orig : BitVec n) (x : Bool × BitVec n)
    (fl : Word) : SameReserved fl (op.flags c orig x fl) := by
  simp only [ShiftOp.flags]
  have h1 : SameReserved fl (if op.isShift then setSZP x.2 (setFlag fl .cf x.1) else setFlag fl .cf x.1) := by
    split
    · exact (sameReserved_setFlag _ _ _).trans (sameReserved_setSZP _ _)
    · exact sameReserved_setFlag _ _ _
  split
  · exact h1.trans (sameReserved_setFlag _ _ _)
  · exact h1

end Sys2Proof.Machine
end

