-- ==== Sys2Proof/Laws/Memory.lean ====
section
/-! SUPPORT. The laws of memory: read after write, the canonical form, and that equal contents are equal data. -/

namespace Sys2Proof.Machine

/-! ### One byte -/

@[simp] theorem Memory.get_insert_same (m : Memory) (a : Nat) (v : Byte) : (m.insert a v).get a = v := by
  induction m with
  | nil => simp [Memory.insert, Memory.get]
  | cons c m ih =>
    obtain ⟨b, x⟩ := c
    simp only [Memory.insert]
    split
    · simp [Memory.get]
    · split
      · simp [Memory.get]
      · next h => simp [Memory.get, Ne.symm h, ih]

theorem Memory.get_insert_ne (m : Memory) {a b : Nat} (v : Byte) (h : b ≠ a) : (m.insert a v).get b = m.get b := by
  induction m with
  | nil => simp [Memory.insert, Memory.get, Ne.symm h]
  | cons c m ih =>
    obtain ⟨k, x⟩ := c
    simp only [Memory.insert]
    split
    · simp [Memory.get, Ne.symm h]
    · split
      · next h2 => subst h2; simp [Memory.get, Ne.symm h]
      · simp [Memory.get, ih]

theorem Memory.get_filter (m : Memory) (a b : Nat) :
    Memory.get (m.filter fun c => c.1 ≠ a) b = if b = a then Config.unlistedByte else m.get b := by
  induction m with
  | nil => simp [Memory.get]
  | cons c m ih =>
    obtain ⟨k, x⟩ := c
    by_cases h1 : k = a
    · by_cases h2 : b = a
      · simp_all
      · have h3 : ¬ k = b := by omega
        simp_all [Memory.get]
    · by_cases h2 : b = a
      · have h3 : ¬ k = b := by omega
        simp_all [Memory.get]
      · simp_all [Memory.get]

/-- Reading a cell after a store to any cell: the whole law of the store. -/
theorem Memory.get_set (m : Memory) (a b : Nat) (v : Byte) : (m.set a v).get b = if b = a then v else m.get b := by
  unfold Memory.set
  split
  · next h => rw [Memory.get_filter, h]
  · by_cases h : b = a
    · subst h; simp
    · simp [h, Memory.get_insert_ne _ _ h]

/-- `MemRead(x, 1)` after `MemWrite(a, 1, v)` (R63). -/
theorem Memory.byteAt_setByte (m : Memory) (a x : PAddr) (v : Byte) :
    (m.setByte a v).byteAt x = if x = a then v else m.byteAt x := by
  simp [Memory.byteAt, Memory.setByte, Memory.get_set, BitVec.toNat_inj]

@[simp] theorem Memory.byteAt_setByte_same (m : Memory) (a : PAddr) (v : Byte) : (m.setByte a v).byteAt a = v := by
  simp [Memory.byteAt_setByte]

/-! ### Accesses of either width -/

/-- The bytes an access of a width touches (R64): A, and for a word A + 1 modulo 2^20. -/
def accessBytes (w : Width) (a : PAddr) : List PAddr :=
  match w with
  | .byte => [a]
  | .word => [a, a + 1]

theorem PAddr.succ_ne (a : PAddr) : a + 1 ≠ a := by
  intro h
  have h2 := congrArg BitVec.toNat h
  have h3 := a.isLt
  rw [BitVec.toNat_add] at h2
  change (a.toNat + 1) % 1048576 = a.toNat at h2
  omega

/-- A write changes only the bytes of its access. -/
theorem Memory.byteAt_write_other (m : Memory) (w : Width) (a x : PAddr) (v : BitVec w.bits)
    (h : x ∉ accessBytes w a) : (m.write w a v).byteAt x = m.byteAt x := by
  cases w <;> simp_all [accessBytes, Memory.write, Memory.byteAt_setByte]

/-- Reading back what was written, at either width (R63, R64). -/
@[simp] theorem Memory.read_write_same (m : Memory) (w : Width) (a : PAddr) (v : BitVec w.bits) :
    (m.write w a v).read w a = v := by
  cases w
  · simp [Memory.read, Memory.write]
  · simp [Memory.read, Memory.write, Memory.byteAt_setByte]

/-- A read sees only the bytes of its access. -/
theorem Memory.read_congr {m n : Memory} {w : Width} {a : PAddr}
    (h : ∀ x ∈ accessBytes w a, m.byteAt x = n.byteAt x) : m.read w a = n.read w a := by
  cases w <;> simp_all [accessBytes, Memory.read]

/-! ### The canonical form -/

/-- All the listed addresses are above `k`. -/
def Memory.above (k : Nat) (m : Memory) : Prop := ∀ c ∈ m, k < c.1

theorem Memory.wf_cons_iff (a : Nat) (v : Byte) (m : Memory) :
    Memory.wf ((a, v) :: m) = true ↔
      a < 0x100000 ∧ v ≠ Config.unlistedByte ∧ Memory.above a m ∧ m.wf = true := by
  induction m generalizing a v with
  | nil => simp [Memory.wf, Memory.above]
  | cons c m ih =>
    obtain ⟨b, x⟩ := c
    simp only [Memory.wf, Bool.and_eq_true, decide_eq_true_eq]
    rw [ih]
    constructor
    · rintro ⟨⟨h1, h2⟩, h3, h4, h5, h6⟩
      refine ⟨by omega, h2, ?_, h3, h4, h5, h6⟩
      intro c hc
      rcases List.mem_cons.1 hc with rfl | hc
      · exact h1
      · exact Nat.lt_trans h1 (h5 c hc)
    · rintro ⟨_, h2, h3, h4⟩
      exact ⟨⟨h3 _ (List.mem_cons_self ..), h2⟩, h4⟩

theorem Memory.above_insert {k a : Nat} {v : Byte} {m : Memory} (hk : k < a) (h : Memory.above k m) :
    Memory.above k (m.insert a v) := by
  induction m with
  | nil => intro c hc; simp only [Memory.insert, List.mem_singleton] at hc; subst hc; exact hk
  | cons c m ih =>
    obtain ⟨b, x⟩ := c
    simp only [Memory.above, List.forall_mem_cons] at h
    simp only [Memory.insert]
    split
    · simp only [Memory.above, List.forall_mem_cons]; exact ⟨hk, h⟩
    · split
      · simp only [Memory.above, List.forall_mem_cons]; exact ⟨hk, h.2⟩
      · simp only [Memory.above, List.forall_mem_cons]; exact ⟨h.1, ih h.2⟩

theorem Memory.wf_insert {m : Memory} {a : Nat} {v : Byte} (ha : a < 0x100000) (hv : v ≠ Config.unlistedByte)
    (h : m.wf = true) : (m.insert a v).wf = true := by
  induction m with
  | nil => simpa [Memory.insert, Memory.wf] using ⟨ha, hv⟩
  | cons c m ih =>
    obtain ⟨b, x⟩ := c
    obtain ⟨h1, h2, h3, h4⟩ := (Memory.wf_cons_iff b x m).1 h
    simp only [Memory.insert]
    split
    · next hlt =>
      refine (Memory.wf_cons_iff a v _).2 ⟨ha, hv, ?_, h⟩
      intro c hc
      rcases List.mem_cons.1 hc with rfl | hc
      · exact hlt
      · exact Nat.lt_trans hlt (h3 c hc)
    · split
      · next he => subst he; exact (Memory.wf_cons_iff _ v m).2 ⟨ha, hv, h3, h4⟩
      · exact (Memory.wf_cons_iff b x _).2 ⟨h1, h2, Memory.above_insert (by omega) h3, ih h4⟩

theorem Memory.wf_filter {m : Memory} (p : Host.Cell → Bool) (h : m.wf = true) : Memory.wf (m.filter p) = true := by
  induction m with
  | nil => exact h
  | cons c m ih =>
    obtain ⟨b, x⟩ := c
    obtain ⟨h1, h2, h3, h4⟩ := (Memory.wf_cons_iff b x m).1 h
    simp only [List.filter_cons]
    split
    · exact (Memory.wf_cons_iff b x _).2 ⟨h1, h2, fun c hc => h3 c (List.mem_filter.1 hc).1, ih h4⟩
    · exact ih h4

/-- Storing a byte inside the 1 MiB keeps the canonical form. -/
theorem Memory.wf_set {m : Memory} {a : Nat} (v : Byte) (ha : a < 0x100000) (h : m.wf = true) :
    (m.set a v).wf = true := by
  unfold Memory.set
  split
  · exact Memory.wf_filter _ h
  · next hv => exact Memory.wf_insert ha hv h

theorem Memory.wf_setByte {m : Memory} (a : PAddr) (v : Byte) (h : m.wf = true) : (m.setByte a v).wf = true :=
  Memory.wf_set v a.isLt h

/-- A write of either width keeps the canonical form. -/
theorem Memory.wf_write {m : Memory} (w : Width) (a : PAddr) (v : BitVec w.bits) (h : m.wf = true) :
    (m.write w a v).wf = true := by
  cases w
  · exact Memory.wf_setByte a v h
  · exact Memory.wf_setByte _ _ (Memory.wf_setByte _ _ h)

/-- A load keeps the canonical form. -/
theorem Memory.wf_load {m : Memory} (a : PAddr) (bs : List Byte) (h : m.wf = true) : (m.load a bs).wf = true := by
  induction bs generalizing m a with
  | nil => exact h
  | cons b bs ih => exact ih _ (Memory.wf_setByte a b h)

theorem Memory.get_of_above {k a : Nat} {m : Memory} (h : Memory.above k m) (hk : a ≤ k) :
    m.get a = Config.unlistedByte := by
  induction m with
  | nil => rfl
  | cons c m ih =>
    obtain ⟨b, x⟩ := c
    simp only [Memory.above, List.forall_mem_cons] at h
    have hb : ¬ b = a := by omega
    simp [Memory.get, hb, ih h.2]

/-- Equal contents are equal data: two memories in canonical form that read alike everywhere are the same list. -/
theorem Memory.eq_of_get_eq {m n : Memory} (hm : m.wf = true) (hn : n.wf = true) (h : ∀ a, m.get a = n.get a) :
    m = n := by
  induction m generalizing n with
  | nil =>
    cases n with
    | nil => rfl
    | cons c n =>
      obtain ⟨b, x⟩ := c
      have hx := ((Memory.wf_cons_iff b x n).1 hn).2.1
      have := h b
      simp [Memory.get] at this
      exact absurd this.symm hx
  | cons c m ih =>
    obtain ⟨a, v⟩ := c
    obtain ⟨-, hv, hma, hm'⟩ := (Memory.wf_cons_iff a v m).1 hm
    cases n with
    | nil =>
      have := h a
      simp [Memory.get] at this
      exact absurd this hv
    | cons d n =>
      obtain ⟨b, x⟩ := d
      obtain ⟨-, hx, hnb, hn'⟩ := (Memory.wf_cons_iff b x n).1 hn
      have hab : a = b := by
        rcases Nat.lt_trichotomy a b with hlt | heq | hgt
        · have := h a
          have hb : ¬ b = a := by omega
          simp [Memory.get, hb, Memory.get_of_above hnb (Nat.le_of_lt hlt)] at this
          exact absurd this hv
        · exact heq
        · have := h b
          have hb : ¬ a = b := by omega
          simp [Memory.get, hb, Memory.get_of_above hma (Nat.le_of_lt hgt)] at this
          exact absurd this.symm hx
      subst hab
      have hvx : v = x := by simpa [Memory.get] using h a
      subst hvx
      congr 1
      refine ih hm' hn' fun k => ?_
      by_cases hk : a = k
      · subst hk
        rw [Memory.get_of_above hma (Nat.le_refl _), Memory.get_of_above hnb (Nat.le_refl _)]
      · simpa [Memory.get, hk] using h k

end Sys2Proof.Machine
end

