-- ==== Sys2Proof/Laws/State.lean ====
section
/-! SUPPORT. One lemma per field of State and per update: what the field is afterwards. Later proofs use these and do not
unfold the updates. -/

namespace Sys2Proof.Machine

variable (s : State)

/-! ### write -/

@[simp] theorem State.write_ax (w : Width) (seg off : Word) (v : BitVec w.bits) :
    (s.write w seg off v).ax = s.ax := rfl
@[simp] theorem State.write_cx (w : Width) (seg off : Word) (v : BitVec w.bits) :
    (s.write w seg off v).cx = s.cx := rfl
@[simp] theorem State.write_dx (w : Width) (seg off : Word) (v : BitVec w.bits) :
    (s.write w seg off v).dx = s.dx := rfl
@[simp] theorem State.write_bx (w : Width) (seg off : Word) (v : BitVec w.bits) :
    (s.write w seg off v).bx = s.bx := rfl
@[simp] theorem State.write_sp (w : Width) (seg off : Word) (v : BitVec w.bits) :
    (s.write w seg off v).sp = s.sp := rfl
@[simp] theorem State.write_bp (w : Width) (seg off : Word) (v : BitVec w.bits) :
    (s.write w seg off v).bp = s.bp := rfl
@[simp] theorem State.write_si (w : Width) (seg off : Word) (v : BitVec w.bits) :
    (s.write w seg off v).si = s.si := rfl
@[simp] theorem State.write_di (w : Width) (seg off : Word) (v : BitVec w.bits) :
    (s.write w seg off v).di = s.di := rfl
@[simp] theorem State.write_es (w : Width) (seg off : Word) (v : BitVec w.bits) :
    (s.write w seg off v).es = s.es := rfl
@[simp] theorem State.write_cs (w : Width) (seg off : Word) (v : BitVec w.bits) :
    (s.write w seg off v).cs = s.cs := rfl
@[simp] theorem State.write_ss (w : Width) (seg off : Word) (v : BitVec w.bits) :
    (s.write w seg off v).ss = s.ss := rfl
@[simp] theorem State.write_ds (w : Width) (seg off : Word) (v : BitVec w.bits) :
    (s.write w seg off v).ds = s.ds := rfl
@[simp] theorem State.write_ip (w : Width) (seg off : Word) (v : BitVec w.bits) :
    (s.write w seg off v).ip = s.ip := rfl
@[simp] theorem State.write_flags (w : Width) (seg off : Word) (v : BitVec w.bits) :
    (s.write w seg off v).flags = s.flags := rfl
@[simp] theorem State.write_run (w : Width) (seg off : Word) (v : BitVec w.bits) :
    (s.write w seg off v).run = s.run := rfl
@[simp] theorem State.write_fault (w : Width) (seg off : Word) (v : BitVec w.bits) :
    (s.write w seg off v).fault = s.fault := rfl
@[simp] theorem State.write_mem (w : Width) (seg off : Word) (v : BitVec w.bits) :
    (s.write w seg off v).mem = s.mem.write w (phys seg off) v := rfl
@[simp] theorem State.write_io (w : Width) (seg off : Word) (v : BitVec w.bits) :
    (s.write w seg off v).io = s.io := rfl
@[simp] theorem State.write_draws (w : Width) (seg off : Word) (v : BitVec w.bits) :
    (s.write w seg off v).draws = s.draws := rfl

/-! ### setFlags -/

@[simp] theorem State.setFlags_ax (fl : Word) :
    (s.setFlags fl).ax = s.ax := rfl
@[simp] theorem State.setFlags_cx (fl : Word) :
    (s.setFlags fl).cx = s.cx := rfl
@[simp] theorem State.setFlags_dx (fl : Word) :
    (s.setFlags fl).dx = s.dx := rfl
@[simp] theorem State.setFlags_bx (fl : Word) :
    (s.setFlags fl).bx = s.bx := rfl
@[simp] theorem State.setFlags_sp (fl : Word) :
    (s.setFlags fl).sp = s.sp := rfl
@[simp] theorem State.setFlags_bp (fl : Word) :
    (s.setFlags fl).bp = s.bp := rfl
@[simp] theorem State.setFlags_si (fl : Word) :
    (s.setFlags fl).si = s.si := rfl
@[simp] theorem State.setFlags_di (fl : Word) :
    (s.setFlags fl).di = s.di := rfl
@[simp] theorem State.setFlags_es (fl : Word) :
    (s.setFlags fl).es = s.es := rfl
@[simp] theorem State.setFlags_cs (fl : Word) :
    (s.setFlags fl).cs = s.cs := rfl
@[simp] theorem State.setFlags_ss (fl : Word) :
    (s.setFlags fl).ss = s.ss := rfl
@[simp] theorem State.setFlags_ds (fl : Word) :
    (s.setFlags fl).ds = s.ds := rfl
@[simp] theorem State.setFlags_ip (fl : Word) :
    (s.setFlags fl).ip = s.ip := rfl
@[simp] theorem State.setFlags_flags (fl : Word) :
    (s.setFlags fl).flags = fl := rfl
@[simp] theorem State.setFlags_run (fl : Word) :
    (s.setFlags fl).run = s.run := rfl
@[simp] theorem State.setFlags_fault (fl : Word) :
    (s.setFlags fl).fault = s.fault := rfl
@[simp] theorem State.setFlags_mem (fl : Word) :
    (s.setFlags fl).mem = s.mem := rfl
@[simp] theorem State.setFlags_io (fl : Word) :
    (s.setFlags fl).io = s.io := rfl
@[simp] theorem State.setFlags_draws (fl : Word) :
    (s.setFlags fl).draws = s.draws := rfl

/-! ### assignFlag -/

@[simp] theorem State.assignFlag_ax (f : Flag) (b : Bool) :
    (s.assignFlag f b).ax = s.ax := rfl
@[simp] theorem State.assignFlag_cx (f : Flag) (b : Bool) :
    (s.assignFlag f b).cx = s.cx := rfl
@[simp] theorem State.assignFlag_dx (f : Flag) (b : Bool) :
    (s.assignFlag f b).dx = s.dx := rfl
@[simp] theorem State.assignFlag_bx (f : Flag) (b : Bool) :
    (s.assignFlag f b).bx = s.bx := rfl
@[simp] theorem State.assignFlag_sp (f : Flag) (b : Bool) :
    (s.assignFlag f b).sp = s.sp := rfl
@[simp] theorem State.assignFlag_bp (f : Flag) (b : Bool) :
    (s.assignFlag f b).bp = s.bp := rfl
@[simp] theorem State.assignFlag_si (f : Flag) (b : Bool) :
    (s.assignFlag f b).si = s.si := rfl
@[simp] theorem State.assignFlag_di (f : Flag) (b : Bool) :
    (s.assignFlag f b).di = s.di := rfl
@[simp] theorem State.assignFlag_es (f : Flag) (b : Bool) :
    (s.assignFlag f b).es = s.es := rfl
@[simp] theorem State.assignFlag_cs (f : Flag) (b : Bool) :
    (s.assignFlag f b).cs = s.cs := rfl
@[simp] theorem State.assignFlag_ss (f : Flag) (b : Bool) :
    (s.assignFlag f b).ss = s.ss := rfl
@[simp] theorem State.assignFlag_ds (f : Flag) (b : Bool) :
    (s.assignFlag f b).ds = s.ds := rfl
@[simp] theorem State.assignFlag_ip (f : Flag) (b : Bool) :
    (s.assignFlag f b).ip = s.ip := rfl
@[simp] theorem State.assignFlag_flags (f : Flag) (b : Bool) :
    (s.assignFlag f b).flags = setFlag s.flags f b := rfl
@[simp] theorem State.assignFlag_run (f : Flag) (b : Bool) :
    (s.assignFlag f b).run = s.run := rfl
@[simp] theorem State.assignFlag_fault (f : Flag) (b : Bool) :
    (s.assignFlag f b).fault = s.fault := rfl
@[simp] theorem State.assignFlag_mem (f : Flag) (b : Bool) :
    (s.assignFlag f b).mem = s.mem := rfl
@[simp] theorem State.assignFlag_io (f : Flag) (b : Bool) :
    (s.assignFlag f b).io = s.io := rfl
@[simp] theorem State.assignFlag_draws (f : Flag) (b : Bool) :
    (s.assignFlag f b).draws = s.draws := rfl

/-! ### undef -/

@[simp] theorem State.undef_ax (fs : List Flag) :
    (s.undef fs).ax = s.ax := rfl
@[simp] theorem State.undef_cx (fs : List Flag) :
    (s.undef fs).cx = s.cx := rfl
@[simp] theorem State.undef_dx (fs : List Flag) :
    (s.undef fs).dx = s.dx := rfl
@[simp] theorem State.undef_bx (fs : List Flag) :
    (s.undef fs).bx = s.bx := rfl
@[simp] theorem State.undef_sp (fs : List Flag) :
    (s.undef fs).sp = s.sp := rfl
@[simp] theorem State.undef_bp (fs : List Flag) :
    (s.undef fs).bp = s.bp := rfl
@[simp] theorem State.undef_si (fs : List Flag) :
    (s.undef fs).si = s.si := rfl
@[simp] theorem State.undef_di (fs : List Flag) :
    (s.undef fs).di = s.di := rfl
@[simp] theorem State.undef_es (fs : List Flag) :
    (s.undef fs).es = s.es := rfl
@[simp] theorem State.undef_cs (fs : List Flag) :
    (s.undef fs).cs = s.cs := rfl
@[simp] theorem State.undef_ss (fs : List Flag) :
    (s.undef fs).ss = s.ss := rfl
@[simp] theorem State.undef_ds (fs : List Flag) :
    (s.undef fs).ds = s.ds := rfl
@[simp] theorem State.undef_ip (fs : List Flag) :
    (s.undef fs).ip = s.ip := rfl
@[simp] theorem State.undef_flags (fs : List Flag) :
    (s.undef fs).flags = undefFlags (Config.freeFlags s.draws) fs s.flags := rfl
@[simp] theorem State.undef_run (fs : List Flag) :
    (s.undef fs).run = s.run := rfl
@[simp] theorem State.undef_fault (fs : List Flag) :
    (s.undef fs).fault = s.fault := rfl
@[simp] theorem State.undef_mem (fs : List Flag) :
    (s.undef fs).mem = s.mem := rfl
@[simp] theorem State.undef_io (fs : List Flag) :
    (s.undef fs).io = s.io := rfl
@[simp] theorem State.undef_draws (fs : List Flag) :
    (s.undef fs).draws = s.draws + 1 := rfl

/-! ### setIp -/

@[simp] theorem State.setIp_ax (v : Word) :
    (s.setIp v).ax = s.ax := rfl
@[simp] theorem State.setIp_cx (v : Word) :
    (s.setIp v).cx = s.cx := rfl
@[simp] theorem State.setIp_dx (v : Word) :
    (s.setIp v).dx = s.dx := rfl
@[simp] theorem State.setIp_bx (v : Word) :
    (s.setIp v).bx = s.bx := rfl
@[simp] theorem State.setIp_sp (v : Word) :
    (s.setIp v).sp = s.sp := rfl
@[simp] theorem State.setIp_bp (v : Word) :
    (s.setIp v).bp = s.bp := rfl
@[simp] theorem State.setIp_si (v : Word) :
    (s.setIp v).si = s.si := rfl
@[simp] theorem State.setIp_di (v : Word) :
    (s.setIp v).di = s.di := rfl
@[simp] theorem State.setIp_es (v : Word) :
    (s.setIp v).es = s.es := rfl
@[simp] theorem State.setIp_cs (v : Word) :
    (s.setIp v).cs = s.cs := rfl
@[simp] theorem State.setIp_ss (v : Word) :
    (s.setIp v).ss = s.ss := rfl
@[simp] theorem State.setIp_ds (v : Word) :
    (s.setIp v).ds = s.ds := rfl
@[simp] theorem State.setIp_ip (v : Word) :
    (s.setIp v).ip = v := rfl
@[simp] theorem State.setIp_flags (v : Word) :
    (s.setIp v).flags = s.flags := rfl
@[simp] theorem State.setIp_run (v : Word) :
    (s.setIp v).run = s.run := rfl
@[simp] theorem State.setIp_fault (v : Word) :
    (s.setIp v).fault = s.fault := rfl
@[simp] theorem State.setIp_mem (v : Word) :
    (s.setIp v).mem = s.mem := rfl
@[simp] theorem State.setIp_io (v : Word) :
    (s.setIp v).io = s.io := rfl
@[simp] theorem State.setIp_draws (v : Word) :
    (s.setIp v).draws = s.draws := rfl

/-! ### advance -/

@[simp] theorem State.advance_ax (c : Ctx) (n : Nat) :
    (s.advance c n).ax = s.ax := rfl
@[simp] theorem State.advance_cx (c : Ctx) (n : Nat) :
    (s.advance c n).cx = s.cx := rfl
@[simp] theorem State.advance_dx (c : Ctx) (n : Nat) :
    (s.advance c n).dx = s.dx := rfl
@[simp] theorem State.advance_bx (c : Ctx) (n : Nat) :
    (s.advance c n).bx = s.bx := rfl
@[simp] theorem State.advance_sp (c : Ctx) (n : Nat) :
    (s.advance c n).sp = s.sp := rfl
@[simp] theorem State.advance_bp (c : Ctx) (n : Nat) :
    (s.advance c n).bp = s.bp := rfl
@[simp] theorem State.advance_si (c : Ctx) (n : Nat) :
    (s.advance c n).si = s.si := rfl
@[simp] theorem State.advance_di (c : Ctx) (n : Nat) :
    (s.advance c n).di = s.di := rfl
@[simp] theorem State.advance_es (c : Ctx) (n : Nat) :
    (s.advance c n).es = s.es := rfl
@[simp] theorem State.advance_cs (c : Ctx) (n : Nat) :
    (s.advance c n).cs = s.cs := rfl
@[simp] theorem State.advance_ss (c : Ctx) (n : Nat) :
    (s.advance c n).ss = s.ss := rfl
@[simp] theorem State.advance_ds (c : Ctx) (n : Nat) :
    (s.advance c n).ds = s.ds := rfl
@[simp] theorem State.advance_ip (c : Ctx) (n : Nat) :
    (s.advance c n).ip = c.next n s := rfl
@[simp] theorem State.advance_flags (c : Ctx) (n : Nat) :
    (s.advance c n).flags = s.flags := rfl
@[simp] theorem State.advance_run (c : Ctx) (n : Nat) :
    (s.advance c n).run = s.run := rfl
@[simp] theorem State.advance_fault (c : Ctx) (n : Nat) :
    (s.advance c n).fault = s.fault := rfl
@[simp] theorem State.advance_mem (c : Ctx) (n : Nat) :
    (s.advance c n).mem = s.mem := rfl
@[simp] theorem State.advance_io (c : Ctx) (n : Nat) :
    (s.advance c n).io = s.io := rfl
@[simp] theorem State.advance_draws (c : Ctx) (n : Nat) :
    (s.advance c n).draws = s.draws := rfl

/-! ### setCsIp -/

@[simp] theorem State.setCsIp_ax (seg off : Word) :
    (s.setCsIp seg off).ax = s.ax := rfl
@[simp] theorem State.setCsIp_cx (seg off : Word) :
    (s.setCsIp seg off).cx = s.cx := rfl
@[simp] theorem State.setCsIp_dx (seg off : Word) :
    (s.setCsIp seg off).dx = s.dx := rfl
@[simp] theorem State.setCsIp_bx (seg off : Word) :
    (s.setCsIp seg off).bx = s.bx := rfl
@[simp] theorem State.setCsIp_sp (seg off : Word) :
    (s.setCsIp seg off).sp = s.sp := rfl
@[simp] theorem State.setCsIp_bp (seg off : Word) :
    (s.setCsIp seg off).bp = s.bp := rfl
@[simp] theorem State.setCsIp_si (seg off : Word) :
    (s.setCsIp seg off).si = s.si := rfl
@[simp] theorem State.setCsIp_di (seg off : Word) :
    (s.setCsIp seg off).di = s.di := rfl
@[simp] theorem State.setCsIp_es (seg off : Word) :
    (s.setCsIp seg off).es = s.es := rfl
@[simp] theorem State.setCsIp_cs (seg off : Word) :
    (s.setCsIp seg off).cs = seg := rfl
@[simp] theorem State.setCsIp_ss (seg off : Word) :
    (s.setCsIp seg off).ss = s.ss := rfl
@[simp] theorem State.setCsIp_ds (seg off : Word) :
    (s.setCsIp seg off).ds = s.ds := rfl
@[simp] theorem State.setCsIp_ip (seg off : Word) :
    (s.setCsIp seg off).ip = off := rfl
@[simp] theorem State.setCsIp_flags (seg off : Word) :
    (s.setCsIp seg off).flags = s.flags := rfl
@[simp] theorem State.setCsIp_run (seg off : Word) :
    (s.setCsIp seg off).run = s.run := rfl
@[simp] theorem State.setCsIp_fault (seg off : Word) :
    (s.setCsIp seg off).fault = s.fault := rfl
@[simp] theorem State.setCsIp_mem (seg off : Word) :
    (s.setCsIp seg off).mem = s.mem := rfl
@[simp] theorem State.setCsIp_io (seg off : Word) :
    (s.setCsIp seg off).io = s.io := rfl
@[simp] theorem State.setCsIp_draws (seg off : Word) :
    (s.setCsIp seg off).draws = s.draws := rfl

/-! ### push16 -/

@[simp] theorem State.push16_ax (v : Word) :
    (s.push16 v).ax = s.ax := rfl
@[simp] theorem State.push16_cx (v : Word) :
    (s.push16 v).cx = s.cx := rfl
@[simp] theorem State.push16_dx (v : Word) :
    (s.push16 v).dx = s.dx := rfl
@[simp] theorem State.push16_bx (v : Word) :
    (s.push16 v).bx = s.bx := rfl
@[simp] theorem State.push16_sp (v : Word) :
    (s.push16 v).sp = s.sp - 2 := rfl
@[simp] theorem State.push16_bp (v : Word) :
    (s.push16 v).bp = s.bp := rfl
@[simp] theorem State.push16_si (v : Word) :
    (s.push16 v).si = s.si := rfl
@[simp] theorem State.push16_di (v : Word) :
    (s.push16 v).di = s.di := rfl
@[simp] theorem State.push16_es (v : Word) :
    (s.push16 v).es = s.es := rfl
@[simp] theorem State.push16_cs (v : Word) :
    (s.push16 v).cs = s.cs := rfl
@[simp] theorem State.push16_ss (v : Word) :
    (s.push16 v).ss = s.ss := rfl
@[simp] theorem State.push16_ds (v : Word) :
    (s.push16 v).ds = s.ds := rfl
@[simp] theorem State.push16_ip (v : Word) :
    (s.push16 v).ip = s.ip := rfl
@[simp] theorem State.push16_flags (v : Word) :
    (s.push16 v).flags = s.flags := rfl
@[simp] theorem State.push16_run (v : Word) :
    (s.push16 v).run = s.run := rfl
@[simp] theorem State.push16_fault (v : Word) :
    (s.push16 v).fault = s.fault := rfl
@[simp] theorem State.push16_mem (v : Word) :
    (s.push16 v).mem = s.mem.write .word (phys s.ss (s.sp - 2)) v := rfl
@[simp] theorem State.push16_io (v : Word) :
    (s.push16 v).io = s.io := rfl
@[simp] theorem State.push16_draws (v : Word) :
    (s.push16 v).draws = s.draws := rfl

/-! ### pop16 -/

@[simp] theorem State.pop16_ax :
    (s.pop16).ax = s.ax := rfl
@[simp] theorem State.pop16_cx :
    (s.pop16).cx = s.cx := rfl
@[simp] theorem State.pop16_dx :
    (s.pop16).dx = s.dx := rfl
@[simp] theorem State.pop16_bx :
    (s.pop16).bx = s.bx := rfl
@[simp] theorem State.pop16_sp :
    (s.pop16).sp = s.sp + 2 := rfl
@[simp] theorem State.pop16_bp :
    (s.pop16).bp = s.bp := rfl
@[simp] theorem State.pop16_si :
    (s.pop16).si = s.si := rfl
@[simp] theorem State.pop16_di :
    (s.pop16).di = s.di := rfl
@[simp] theorem State.pop16_es :
    (s.pop16).es = s.es := rfl
@[simp] theorem State.pop16_cs :
    (s.pop16).cs = s.cs := rfl
@[simp] theorem State.pop16_ss :
    (s.pop16).ss = s.ss := rfl
@[simp] theorem State.pop16_ds :
    (s.pop16).ds = s.ds := rfl
@[simp] theorem State.pop16_ip :
    (s.pop16).ip = s.ip := rfl
@[simp] theorem State.pop16_flags :
    (s.pop16).flags = s.flags := rfl
@[simp] theorem State.pop16_run :
    (s.pop16).run = s.run := rfl
@[simp] theorem State.pop16_fault :
    (s.pop16).fault = s.fault := rfl
@[simp] theorem State.pop16_mem :
    (s.pop16).mem = s.mem := rfl
@[simp] theorem State.pop16_io :
    (s.pop16).io = s.io := rfl
@[simp] theorem State.pop16_draws :
    (s.pop16).draws = s.draws := rfl

/-! ### addSp -/

@[simp] theorem State.addSp_ax (n : Word) :
    (s.addSp n).ax = s.ax := rfl
@[simp] theorem State.addSp_cx (n : Word) :
    (s.addSp n).cx = s.cx := rfl
@[simp] theorem State.addSp_dx (n : Word) :
    (s.addSp n).dx = s.dx := rfl
@[simp] theorem State.addSp_bx (n : Word) :
    (s.addSp n).bx = s.bx := rfl
@[simp] theorem State.addSp_sp (n : Word) :
    (s.addSp n).sp = s.sp + n := rfl
@[simp] theorem State.addSp_bp (n : Word) :
    (s.addSp n).bp = s.bp := rfl
@[simp] theorem State.addSp_si (n : Word) :
    (s.addSp n).si = s.si := rfl
@[simp] theorem State.addSp_di (n : Word) :
    (s.addSp n).di = s.di := rfl
@[simp] theorem State.addSp_es (n : Word) :
    (s.addSp n).es = s.es := rfl
@[simp] theorem State.addSp_cs (n : Word) :
    (s.addSp n).cs = s.cs := rfl
@[simp] theorem State.addSp_ss (n : Word) :
    (s.addSp n).ss = s.ss := rfl
@[simp] theorem State.addSp_ds (n : Word) :
    (s.addSp n).ds = s.ds := rfl
@[simp] theorem State.addSp_ip (n : Word) :
    (s.addSp n).ip = s.ip := rfl
@[simp] theorem State.addSp_flags (n : Word) :
    (s.addSp n).flags = s.flags := rfl
@[simp] theorem State.addSp_run (n : Word) :
    (s.addSp n).run = s.run := rfl
@[simp] theorem State.addSp_fault (n : Word) :
    (s.addSp n).fault = s.fault := rfl
@[simp] theorem State.addSp_mem (n : Word) :
    (s.addSp n).mem = s.mem := rfl
@[simp] theorem State.addSp_io (n : Word) :
    (s.addSp n).io = s.io := rfl
@[simp] theorem State.addSp_draws (n : Word) :
    (s.addSp n).draws = s.draws := rfl

/-! ### portRead -/

@[simp] theorem State.portRead_ax (w : Width) (port : Word) :
    (s.portRead w port).ax = s.ax := rfl
@[simp] theorem State.portRead_cx (w : Width) (port : Word) :
    (s.portRead w port).cx = s.cx := rfl
@[simp] theorem State.portRead_dx (w : Width) (port : Word) :
    (s.portRead w port).dx = s.dx := rfl
@[simp] theorem State.portRead_bx (w : Width) (port : Word) :
    (s.portRead w port).bx = s.bx := rfl
@[simp] theorem State.portRead_sp (w : Width) (port : Word) :
    (s.portRead w port).sp = s.sp := rfl
@[simp] theorem State.portRead_bp (w : Width) (port : Word) :
    (s.portRead w port).bp = s.bp := rfl
@[simp] theorem State.portRead_si (w : Width) (port : Word) :
    (s.portRead w port).si = s.si := rfl
@[simp] theorem State.portRead_di (w : Width) (port : Word) :
    (s.portRead w port).di = s.di := rfl
@[simp] theorem State.portRead_es (w : Width) (port : Word) :
    (s.portRead w port).es = s.es := rfl
@[simp] theorem State.portRead_cs (w : Width) (port : Word) :
    (s.portRead w port).cs = s.cs := rfl
@[simp] theorem State.portRead_ss (w : Width) (port : Word) :
    (s.portRead w port).ss = s.ss := rfl
@[simp] theorem State.portRead_ds (w : Width) (port : Word) :
    (s.portRead w port).ds = s.ds := rfl
@[simp] theorem State.portRead_ip (w : Width) (port : Word) :
    (s.portRead w port).ip = s.ip := rfl
@[simp] theorem State.portRead_flags (w : Width) (port : Word) :
    (s.portRead w port).flags = s.flags := rfl
@[simp] theorem State.portRead_run (w : Width) (port : Word) :
    (s.portRead w port).run = s.run := rfl
@[simp] theorem State.portRead_fault (w : Width) (port : Word) :
    (s.portRead w port).fault = s.fault := rfl
@[simp] theorem State.portRead_mem (w : Width) (port : Word) :
    (s.portRead w port).mem = s.mem := rfl
@[simp] theorem State.portRead_io (w : Width) (port : Word) :
    (s.portRead w port).io = s.io ++ [⟨.input, port, w, wordOf w (s.portValue w port)⟩] := rfl
@[simp] theorem State.portRead_draws (w : Width) (port : Word) :
    (s.portRead w port).draws = s.draws + 1 := rfl

/-! ### portWrite -/

@[simp] theorem State.portWrite_ax (w : Width) (port : Word) (v : BitVec w.bits) :
    (s.portWrite w port v).ax = s.ax := rfl
@[simp] theorem State.portWrite_cx (w : Width) (port : Word) (v : BitVec w.bits) :
    (s.portWrite w port v).cx = s.cx := rfl
@[simp] theorem State.portWrite_dx (w : Width) (port : Word) (v : BitVec w.bits) :
    (s.portWrite w port v).dx = s.dx := rfl
@[simp] theorem State.portWrite_bx (w : Width) (port : Word) (v : BitVec w.bits) :
    (s.portWrite w port v).bx = s.bx := rfl
@[simp] theorem State.portWrite_sp (w : Width) (port : Word) (v : BitVec w.bits) :
    (s.portWrite w port v).sp = s.sp := rfl
@[simp] theorem State.portWrite_bp (w : Width) (port : Word) (v : BitVec w.bits) :
    (s.portWrite w port v).bp = s.bp := rfl
@[simp] theorem State.portWrite_si (w : Width) (port : Word) (v : BitVec w.bits) :
    (s.portWrite w port v).si = s.si := rfl
@[simp] theorem State.portWrite_di (w : Width) (port : Word) (v : BitVec w.bits) :
    (s.portWrite w port v).di = s.di := rfl
@[simp] theorem State.portWrite_es (w : Width) (port : Word) (v : BitVec w.bits) :
    (s.portWrite w port v).es = s.es := rfl
@[simp] theorem State.portWrite_cs (w : Width) (port : Word) (v : BitVec w.bits) :
    (s.portWrite w port v).cs = s.cs := rfl
@[simp] theorem State.portWrite_ss (w : Width) (port : Word) (v : BitVec w.bits) :
    (s.portWrite w port v).ss = s.ss := rfl
@[simp] theorem State.portWrite_ds (w : Width) (port : Word) (v : BitVec w.bits) :
    (s.portWrite w port v).ds = s.ds := rfl
@[simp] theorem State.portWrite_ip (w : Width) (port : Word) (v : BitVec w.bits) :
    (s.portWrite w port v).ip = s.ip := rfl
@[simp] theorem State.portWrite_flags (w : Width) (port : Word) (v : BitVec w.bits) :
    (s.portWrite w port v).flags = s.flags := rfl
@[simp] theorem State.portWrite_run (w : Width) (port : Word) (v : BitVec w.bits) :
    (s.portWrite w port v).run = s.run := rfl
@[simp] theorem State.portWrite_fault (w : Width) (port : Word) (v : BitVec w.bits) :
    (s.portWrite w port v).fault = s.fault := rfl
@[simp] theorem State.portWrite_mem (w : Width) (port : Word) (v : BitVec w.bits) :
    (s.portWrite w port v).mem = s.mem := rfl
@[simp] theorem State.portWrite_io (w : Width) (port : Word) (v : BitVec w.bits) :
    (s.portWrite w port v).io = s.io ++ [⟨.output, port, w, wordOf w v⟩] := rfl
@[simp] theorem State.portWrite_draws (w : Width) (port : Word) (v : BitVec w.bits) :
    (s.portWrite w port v).draws = s.draws := rfl

/-! ### takeFault -/

@[simp] theorem State.takeFault_ax (x : FaultCause) (op : Byte) (m : Option Byte) :
    (s.takeFault x op m).ax = s.ax := rfl
@[simp] theorem State.takeFault_cx (x : FaultCause) (op : Byte) (m : Option Byte) :
    (s.takeFault x op m).cx = s.cx := rfl
@[simp] theorem State.takeFault_dx (x : FaultCause) (op : Byte) (m : Option Byte) :
    (s.takeFault x op m).dx = s.dx := rfl
@[simp] theorem State.takeFault_bx (x : FaultCause) (op : Byte) (m : Option Byte) :
    (s.takeFault x op m).bx = s.bx := rfl
@[simp] theorem State.takeFault_sp (x : FaultCause) (op : Byte) (m : Option Byte) :
    (s.takeFault x op m).sp = s.sp := rfl
@[simp] theorem State.takeFault_bp (x : FaultCause) (op : Byte) (m : Option Byte) :
    (s.takeFault x op m).bp = s.bp := rfl
@[simp] theorem State.takeFault_si (x : FaultCause) (op : Byte) (m : Option Byte) :
    (s.takeFault x op m).si = s.si := rfl
@[simp] theorem State.takeFault_di (x : FaultCause) (op : Byte) (m : Option Byte) :
    (s.takeFault x op m).di = s.di := rfl
@[simp] theorem State.takeFault_es (x : FaultCause) (op : Byte) (m : Option Byte) :
    (s.takeFault x op m).es = s.es := rfl
@[simp] theorem State.takeFault_cs (x : FaultCause) (op : Byte) (m : Option Byte) :
    (s.takeFault x op m).cs = s.cs := rfl
@[simp] theorem State.takeFault_ss (x : FaultCause) (op : Byte) (m : Option Byte) :
    (s.takeFault x op m).ss = s.ss := rfl
@[simp] theorem State.takeFault_ds (x : FaultCause) (op : Byte) (m : Option Byte) :
    (s.takeFault x op m).ds = s.ds := rfl
@[simp] theorem State.takeFault_ip (x : FaultCause) (op : Byte) (m : Option Byte) :
    (s.takeFault x op m).ip = s.ip := rfl
@[simp] theorem State.takeFault_flags (x : FaultCause) (op : Byte) (m : Option Byte) :
    (s.takeFault x op m).flags = s.flags := rfl
@[simp] theorem State.takeFault_run (x : FaultCause) (op : Byte) (m : Option Byte) :
    (s.takeFault x op m).run = .faulted := rfl
@[simp] theorem State.takeFault_fault (x : FaultCause) (op : Byte) (m : Option Byte) :
    (s.takeFault x op m).fault = some ⟨x, s.cs, s.ip, phys s.cs s.ip, op, m⟩ := rfl
@[simp] theorem State.takeFault_mem (x : FaultCause) (op : Byte) (m : Option Byte) :
    (s.takeFault x op m).mem = s.mem := rfl
@[simp] theorem State.takeFault_io (x : FaultCause) (op : Byte) (m : Option Byte) :
    (s.takeFault x op m).io = s.io := rfl
@[simp] theorem State.takeFault_draws (x : FaultCause) (op : Byte) (m : Option Byte) :
    (s.takeFault x op m).draws = s.draws := rfl

/-! ### load -/

@[simp] theorem State.load_ax (a : PAddr) (bs : List Byte) :
    (s.load a bs).ax = s.ax := rfl
@[simp] theorem State.load_cx (a : PAddr) (bs : List Byte) :
    (s.load a bs).cx = s.cx := rfl
@[simp] theorem State.load_dx (a : PAddr) (bs : List Byte) :
    (s.load a bs).dx = s.dx := rfl
@[simp] theorem State.load_bx (a : PAddr) (bs : List Byte) :
    (s.load a bs).bx = s.bx := rfl
@[simp] theorem State.load_sp (a : PAddr) (bs : List Byte) :
    (s.load a bs).sp = s.sp := rfl
@[simp] theorem State.load_bp (a : PAddr) (bs : List Byte) :
    (s.load a bs).bp = s.bp := rfl
@[simp] theorem State.load_si (a : PAddr) (bs : List Byte) :
    (s.load a bs).si = s.si := rfl
@[simp] theorem State.load_di (a : PAddr) (bs : List Byte) :
    (s.load a bs).di = s.di := rfl
@[simp] theorem State.load_es (a : PAddr) (bs : List Byte) :
    (s.load a bs).es = s.es := rfl
@[simp] theorem State.load_cs (a : PAddr) (bs : List Byte) :
    (s.load a bs).cs = s.cs := rfl
@[simp] theorem State.load_ss (a : PAddr) (bs : List Byte) :
    (s.load a bs).ss = s.ss := rfl
@[simp] theorem State.load_ds (a : PAddr) (bs : List Byte) :
    (s.load a bs).ds = s.ds := rfl
@[simp] theorem State.load_ip (a : PAddr) (bs : List Byte) :
    (s.load a bs).ip = s.ip := rfl
@[simp] theorem State.load_flags (a : PAddr) (bs : List Byte) :
    (s.load a bs).flags = s.flags := rfl
@[simp] theorem State.load_run (a : PAddr) (bs : List Byte) :
    (s.load a bs).run = s.run := rfl
@[simp] theorem State.load_fault (a : PAddr) (bs : List Byte) :
    (s.load a bs).fault = s.fault := rfl
@[simp] theorem State.load_mem (a : PAddr) (bs : List Byte) :
    (s.load a bs).mem = s.mem.load a bs := rfl
@[simp] theorem State.load_io (a : PAddr) (bs : List Byte) :
    (s.load a bs).io = s.io := rfl
@[simp] theorem State.load_draws (a : PAddr) (bs : List Byte) :
    (s.load a bs).draws = s.draws := rfl

/-! ### stepSi -/

@[simp] theorem State.stepSi_ax (w : Width) :
    (s.stepSi w).ax = s.ax := rfl
@[simp] theorem State.stepSi_cx (w : Width) :
    (s.stepSi w).cx = s.cx := rfl
@[simp] theorem State.stepSi_dx (w : Width) :
    (s.stepSi w).dx = s.dx := rfl
@[simp] theorem State.stepSi_bx (w : Width) :
    (s.stepSi w).bx = s.bx := rfl
@[simp] theorem State.stepSi_sp (w : Width) :
    (s.stepSi w).sp = s.sp := rfl
@[simp] theorem State.stepSi_bp (w : Width) :
    (s.stepSi w).bp = s.bp := rfl
@[simp] theorem State.stepSi_si (w : Width) :
    (s.stepSi w).si = s.si + s.stringDelta w := rfl
@[simp] theorem State.stepSi_di (w : Width) :
    (s.stepSi w).di = s.di := rfl
@[simp] theorem State.stepSi_es (w : Width) :
    (s.stepSi w).es = s.es := rfl
@[simp] theorem State.stepSi_cs (w : Width) :
    (s.stepSi w).cs = s.cs := rfl
@[simp] theorem State.stepSi_ss (w : Width) :
    (s.stepSi w).ss = s.ss := rfl
@[simp] theorem State.stepSi_ds (w : Width) :
    (s.stepSi w).ds = s.ds := rfl
@[simp] theorem State.stepSi_ip (w : Width) :
    (s.stepSi w).ip = s.ip := rfl
@[simp] theorem State.stepSi_flags (w : Width) :
    (s.stepSi w).flags = s.flags := rfl
@[simp] theorem State.stepSi_run (w : Width) :
    (s.stepSi w).run = s.run := rfl
@[simp] theorem State.stepSi_fault (w : Width) :
    (s.stepSi w).fault = s.fault := rfl
@[simp] theorem State.stepSi_mem (w : Width) :
    (s.stepSi w).mem = s.mem := rfl
@[simp] theorem State.stepSi_io (w : Width) :
    (s.stepSi w).io = s.io := rfl
@[simp] theorem State.stepSi_draws (w : Width) :
    (s.stepSi w).draws = s.draws := rfl

/-! ### stepDi -/

@[simp] theorem State.stepDi_ax (w : Width) :
    (s.stepDi w).ax = s.ax := rfl
@[simp] theorem State.stepDi_cx (w : Width) :
    (s.stepDi w).cx = s.cx := rfl
@[simp] theorem State.stepDi_dx (w : Width) :
    (s.stepDi w).dx = s.dx := rfl
@[simp] theorem State.stepDi_bx (w : Width) :
    (s.stepDi w).bx = s.bx := rfl
@[simp] theorem State.stepDi_sp (w : Width) :
    (s.stepDi w).sp = s.sp := rfl
@[simp] theorem State.stepDi_bp (w : Width) :
    (s.stepDi w).bp = s.bp := rfl
@[simp] theorem State.stepDi_si (w : Width) :
    (s.stepDi w).si = s.si := rfl
@[simp] theorem State.stepDi_di (w : Width) :
    (s.stepDi w).di = s.di + s.stringDelta w := rfl
@[simp] theorem State.stepDi_es (w : Width) :
    (s.stepDi w).es = s.es := rfl
@[simp] theorem State.stepDi_cs (w : Width) :
    (s.stepDi w).cs = s.cs := rfl
@[simp] theorem State.stepDi_ss (w : Width) :
    (s.stepDi w).ss = s.ss := rfl
@[simp] theorem State.stepDi_ds (w : Width) :
    (s.stepDi w).ds = s.ds := rfl
@[simp] theorem State.stepDi_ip (w : Width) :
    (s.stepDi w).ip = s.ip := rfl
@[simp] theorem State.stepDi_flags (w : Width) :
    (s.stepDi w).flags = s.flags := rfl
@[simp] theorem State.stepDi_run (w : Width) :
    (s.stepDi w).run = s.run := rfl
@[simp] theorem State.stepDi_fault (w : Width) :
    (s.stepDi w).fault = s.fault := rfl
@[simp] theorem State.stepDi_mem (w : Width) :
    (s.stepDi w).mem = s.mem := rfl
@[simp] theorem State.stepDi_io (w : Width) :
    (s.stepDi w).io = s.io := rfl
@[simp] theorem State.stepDi_draws (w : Width) :
    (s.stepDi w).draws = s.draws := rfl

/-! ### decCx -/

@[simp] theorem State.decCx_ax :
    (s.decCx).ax = s.ax := rfl
@[simp] theorem State.decCx_cx :
    (s.decCx).cx = s.cx - 1 := rfl
@[simp] theorem State.decCx_dx :
    (s.decCx).dx = s.dx := rfl
@[simp] theorem State.decCx_bx :
    (s.decCx).bx = s.bx := rfl
@[simp] theorem State.decCx_sp :
    (s.decCx).sp = s.sp := rfl
@[simp] theorem State.decCx_bp :
    (s.decCx).bp = s.bp := rfl
@[simp] theorem State.decCx_si :
    (s.decCx).si = s.si := rfl
@[simp] theorem State.decCx_di :
    (s.decCx).di = s.di := rfl
@[simp] theorem State.decCx_es :
    (s.decCx).es = s.es := rfl
@[simp] theorem State.decCx_cs :
    (s.decCx).cs = s.cs := rfl
@[simp] theorem State.decCx_ss :
    (s.decCx).ss = s.ss := rfl
@[simp] theorem State.decCx_ds :
    (s.decCx).ds = s.ds := rfl
@[simp] theorem State.decCx_ip :
    (s.decCx).ip = s.ip := rfl
@[simp] theorem State.decCx_flags :
    (s.decCx).flags = s.flags := rfl
@[simp] theorem State.decCx_run :
    (s.decCx).run = s.run := rfl
@[simp] theorem State.decCx_fault :
    (s.decCx).fault = s.fault := rfl
@[simp] theorem State.decCx_mem :
    (s.decCx).mem = s.mem := rfl
@[simp] theorem State.decCx_io :
    (s.decCx).io = s.io := rfl
@[simp] theorem State.decCx_draws :
    (s.decCx).draws = s.draws := rfl

/-! ### loopCount -/

@[simp] theorem State.loopCount_ax :
    (s.loopCount).ax = s.ax := rfl
@[simp] theorem State.loopCount_cx :
    (s.loopCount).cx = s.cx - 1 := rfl
@[simp] theorem State.loopCount_dx :
    (s.loopCount).dx = s.dx := rfl
@[simp] theorem State.loopCount_bx :
    (s.loopCount).bx = s.bx := rfl
@[simp] theorem State.loopCount_sp :
    (s.loopCount).sp = s.sp := rfl
@[simp] theorem State.loopCount_bp :
    (s.loopCount).bp = s.bp := rfl
@[simp] theorem State.loopCount_si :
    (s.loopCount).si = s.si := rfl
@[simp] theorem State.loopCount_di :
    (s.loopCount).di = s.di := rfl
@[simp] theorem State.loopCount_es :
    (s.loopCount).es = s.es := rfl
@[simp] theorem State.loopCount_cs :
    (s.loopCount).cs = s.cs := rfl
@[simp] theorem State.loopCount_ss :
    (s.loopCount).ss = s.ss := rfl
@[simp] theorem State.loopCount_ds :
    (s.loopCount).ds = s.ds := rfl
@[simp] theorem State.loopCount_ip :
    (s.loopCount).ip = s.ip := rfl
@[simp] theorem State.loopCount_flags :
    (s.loopCount).flags = s.flags := rfl
@[simp] theorem State.loopCount_run :
    (s.loopCount).run = s.run := rfl
@[simp] theorem State.loopCount_fault :
    (s.loopCount).fault = s.fault := rfl
@[simp] theorem State.loopCount_mem :
    (s.loopCount).mem = s.mem := rfl
@[simp] theorem State.loopCount_io :
    (s.loopCount).io = s.io := rfl
@[simp] theorem State.loopCount_draws :
    (s.loopCount).draws = s.draws := rfl

/-! ### halt -/

@[simp] theorem State.halt_ax :
    (s.halt).ax = s.ax := rfl
@[simp] theorem State.halt_cx :
    (s.halt).cx = s.cx := rfl
@[simp] theorem State.halt_dx :
    (s.halt).dx = s.dx := rfl
@[simp] theorem State.halt_bx :
    (s.halt).bx = s.bx := rfl
@[simp] theorem State.halt_sp :
    (s.halt).sp = s.sp := rfl
@[simp] theorem State.halt_bp :
    (s.halt).bp = s.bp := rfl
@[simp] theorem State.halt_si :
    (s.halt).si = s.si := rfl
@[simp] theorem State.halt_di :
    (s.halt).di = s.di := rfl
@[simp] theorem State.halt_es :
    (s.halt).es = s.es := rfl
@[simp] theorem State.halt_cs :
    (s.halt).cs = s.cs := rfl
@[simp] theorem State.halt_ss :
    (s.halt).ss = s.ss := rfl
@[simp] theorem State.halt_ds :
    (s.halt).ds = s.ds := rfl
@[simp] theorem State.halt_ip :
    (s.halt).ip = s.ip := rfl
@[simp] theorem State.halt_flags :
    (s.halt).flags = s.flags := rfl
@[simp] theorem State.halt_run :
    (s.halt).run = .halted := rfl
@[simp] theorem State.halt_fault :
    (s.halt).fault = s.fault := rfl
@[simp] theorem State.halt_mem :
    (s.halt).mem = s.mem := rfl
@[simp] theorem State.halt_io :
    (s.halt).io = s.io := rfl
@[simp] theorem State.halt_draws :
    (s.halt).draws = s.draws := rfl

/-! ### setProductFlags -/

@[simp] theorem State.setProductFlags_ax (b : Bool) :
    (s.setProductFlags b).ax = s.ax := rfl
@[simp] theorem State.setProductFlags_cx (b : Bool) :
    (s.setProductFlags b).cx = s.cx := rfl
@[simp] theorem State.setProductFlags_dx (b : Bool) :
    (s.setProductFlags b).dx = s.dx := rfl
@[simp] theorem State.setProductFlags_bx (b : Bool) :
    (s.setProductFlags b).bx = s.bx := rfl
@[simp] theorem State.setProductFlags_sp (b : Bool) :
    (s.setProductFlags b).sp = s.sp := rfl
@[simp] theorem State.setProductFlags_bp (b : Bool) :
    (s.setProductFlags b).bp = s.bp := rfl
@[simp] theorem State.setProductFlags_si (b : Bool) :
    (s.setProductFlags b).si = s.si := rfl
@[simp] theorem State.setProductFlags_di (b : Bool) :
    (s.setProductFlags b).di = s.di := rfl
@[simp] theorem State.setProductFlags_es (b : Bool) :
    (s.setProductFlags b).es = s.es := rfl
@[simp] theorem State.setProductFlags_cs (b : Bool) :
    (s.setProductFlags b).cs = s.cs := rfl
@[simp] theorem State.setProductFlags_ss (b : Bool) :
    (s.setProductFlags b).ss = s.ss := rfl
@[simp] theorem State.setProductFlags_ds (b : Bool) :
    (s.setProductFlags b).ds = s.ds := rfl
@[simp] theorem State.setProductFlags_ip (b : Bool) :
    (s.setProductFlags b).ip = s.ip := rfl
@[simp] theorem State.setProductFlags_flags (b : Bool) :
    (s.setProductFlags b).flags = undefFlags (Config.freeFlags s.draws) [.sf, .zf, .af, .pf] (setFlag (setFlag s.flags .cf b) .of b) := rfl
@[simp] theorem State.setProductFlags_run (b : Bool) :
    (s.setProductFlags b).run = s.run := rfl
@[simp] theorem State.setProductFlags_fault (b : Bool) :
    (s.setProductFlags b).fault = s.fault := rfl
@[simp] theorem State.setProductFlags_mem (b : Bool) :
    (s.setProductFlags b).mem = s.mem := rfl
@[simp] theorem State.setProductFlags_io (b : Bool) :
    (s.setProductFlags b).io = s.io := rfl
@[simp] theorem State.setProductFlags_draws (b : Bool) :
    (s.setProductFlags b).draws = s.draws + 1 := rfl

/-! ### setReg16 -/

@[simp] theorem State.setReg16_es (r : RegNum) (v : Word) :
    (s.setReg16 r v).es = s.es := by
  cases r <;> rfl
@[simp] theorem State.setReg16_cs (r : RegNum) (v : Word) :
    (s.setReg16 r v).cs = s.cs := by
  cases r <;> rfl
@[simp] theorem State.setReg16_ss (r : RegNum) (v : Word) :
    (s.setReg16 r v).ss = s.ss := by
  cases r <;> rfl
@[simp] theorem State.setReg16_ds (r : RegNum) (v : Word) :
    (s.setReg16 r v).ds = s.ds := by
  cases r <;> rfl
@[simp] theorem State.setReg16_ip (r : RegNum) (v : Word) :
    (s.setReg16 r v).ip = s.ip := by
  cases r <;> rfl
@[simp] theorem State.setReg16_flags (r : RegNum) (v : Word) :
    (s.setReg16 r v).flags = s.flags := by
  cases r <;> rfl
@[simp] theorem State.setReg16_run (r : RegNum) (v : Word) :
    (s.setReg16 r v).run = s.run := by
  cases r <;> rfl
@[simp] theorem State.setReg16_fault (r : RegNum) (v : Word) :
    (s.setReg16 r v).fault = s.fault := by
  cases r <;> rfl
@[simp] theorem State.setReg16_mem (r : RegNum) (v : Word) :
    (s.setReg16 r v).mem = s.mem := by
  cases r <;> rfl
@[simp] theorem State.setReg16_io (r : RegNum) (v : Word) :
    (s.setReg16 r v).io = s.io := by
  cases r <;> rfl
@[simp] theorem State.setReg16_draws (r : RegNum) (v : Word) :
    (s.setReg16 r v).draws = s.draws := by
  cases r <;> rfl

/-! ### setReg8 -/

@[simp] theorem State.setReg8_sp (r : RegNum) (v : Byte) :
    (s.setReg8 r v).sp = s.sp := by
  cases r <;> rfl
@[simp] theorem State.setReg8_bp (r : RegNum) (v : Byte) :
    (s.setReg8 r v).bp = s.bp := by
  cases r <;> rfl
@[simp] theorem State.setReg8_si (r : RegNum) (v : Byte) :
    (s.setReg8 r v).si = s.si := by
  cases r <;> rfl
@[simp] theorem State.setReg8_di (r : RegNum) (v : Byte) :
    (s.setReg8 r v).di = s.di := by
  cases r <;> rfl
@[simp] theorem State.setReg8_es (r : RegNum) (v : Byte) :
    (s.setReg8 r v).es = s.es := by
  cases r <;> rfl
@[simp] theorem State.setReg8_cs (r : RegNum) (v : Byte) :
    (s.setReg8 r v).cs = s.cs := by
  cases r <;> rfl
@[simp] theorem State.setReg8_ss (r : RegNum) (v : Byte) :
    (s.setReg8 r v).ss = s.ss := by
  cases r <;> rfl
@[simp] theorem State.setReg8_ds (r : RegNum) (v : Byte) :
    (s.setReg8 r v).ds = s.ds := by
  cases r <;> rfl
@[simp] theorem State.setReg8_ip (r : RegNum) (v : Byte) :
    (s.setReg8 r v).ip = s.ip := by
  cases r <;> rfl
@[simp] theorem State.setReg8_flags (r : RegNum) (v : Byte) :
    (s.setReg8 r v).flags = s.flags := by
  cases r <;> rfl
@[simp] theorem State.setReg8_run (r : RegNum) (v : Byte) :
    (s.setReg8 r v).run = s.run := by
  cases r <;> rfl
@[simp] theorem State.setReg8_fault (r : RegNum) (v : Byte) :
    (s.setReg8 r v).fault = s.fault := by
  cases r <;> rfl
@[simp] theorem State.setReg8_mem (r : RegNum) (v : Byte) :
    (s.setReg8 r v).mem = s.mem := by
  cases r <;> rfl
@[simp] theorem State.setReg8_io (r : RegNum) (v : Byte) :
    (s.setReg8 r v).io = s.io := by
  cases r <;> rfl
@[simp] theorem State.setReg8_draws (r : RegNum) (v : Byte) :
    (s.setReg8 r v).draws = s.draws := by
  cases r <;> rfl

/-! ### setReg -/

@[simp] theorem State.setReg_es (w : Width) (r : RegNum) (v : BitVec w.bits) :
    (s.setReg w r v).es = s.es := by
  cases w <;> cases r <;> rfl
@[simp] theorem State.setReg_cs (w : Width) (r : RegNum) (v : BitVec w.bits) :
    (s.setReg w r v).cs = s.cs := by
  cases w <;> cases r <;> rfl
@[simp] theorem State.setReg_ss (w : Width) (r : RegNum) (v : BitVec w.bits) :
    (s.setReg w r v).ss = s.ss := by
  cases w <;> cases r <;> rfl
@[simp] theorem State.setReg_ds (w : Width) (r : RegNum) (v : BitVec w.bits) :
    (s.setReg w r v).ds = s.ds := by
  cases w <;> cases r <;> rfl
@[simp] theorem State.setReg_ip (w : Width) (r : RegNum) (v : BitVec w.bits) :
    (s.setReg w r v).ip = s.ip := by
  cases w <;> cases r <;> rfl
@[simp] theorem State.setReg_flags (w : Width) (r : RegNum) (v : BitVec w.bits) :
    (s.setReg w r v).flags = s.flags := by
  cases w <;> cases r <;> rfl
@[simp] theorem State.setReg_run (w : Width) (r : RegNum) (v : BitVec w.bits) :
    (s.setReg w r v).run = s.run := by
  cases w <;> cases r <;> rfl
@[simp] theorem State.setReg_fault (w : Width) (r : RegNum) (v : BitVec w.bits) :
    (s.setReg w r v).fault = s.fault := by
  cases w <;> cases r <;> rfl
@[simp] theorem State.setReg_mem (w : Width) (r : RegNum) (v : BitVec w.bits) :
    (s.setReg w r v).mem = s.mem := by
  cases w <;> cases r <;> rfl
@[simp] theorem State.setReg_io (w : Width) (r : RegNum) (v : BitVec w.bits) :
    (s.setReg w r v).io = s.io := by
  cases w <;> cases r <;> rfl
@[simp] theorem State.setReg_draws (w : Width) (r : RegNum) (v : BitVec w.bits) :
    (s.setReg w r v).draws = s.draws := by
  cases w <;> cases r <;> rfl

/-! ### setAcc -/

@[simp] theorem State.setAcc_cx (w : Width) (v : BitVec w.bits) :
    (s.setAcc w v).cx = s.cx := by
  cases w <;> rfl
@[simp] theorem State.setAcc_dx (w : Width) (v : BitVec w.bits) :
    (s.setAcc w v).dx = s.dx := by
  cases w <;> rfl
@[simp] theorem State.setAcc_bx (w : Width) (v : BitVec w.bits) :
    (s.setAcc w v).bx = s.bx := by
  cases w <;> rfl
@[simp] theorem State.setAcc_sp (w : Width) (v : BitVec w.bits) :
    (s.setAcc w v).sp = s.sp := by
  cases w <;> rfl
@[simp] theorem State.setAcc_bp (w : Width) (v : BitVec w.bits) :
    (s.setAcc w v).bp = s.bp := by
  cases w <;> rfl
@[simp] theorem State.setAcc_si (w : Width) (v : BitVec w.bits) :
    (s.setAcc w v).si = s.si := by
  cases w <;> rfl
@[simp] theorem State.setAcc_di (w : Width) (v : BitVec w.bits) :
    (s.setAcc w v).di = s.di := by
  cases w <;> rfl
@[simp] theorem State.setAcc_es (w : Width) (v : BitVec w.bits) :
    (s.setAcc w v).es = s.es := by
  cases w <;> rfl
@[simp] theorem State.setAcc_cs (w : Width) (v : BitVec w.bits) :
    (s.setAcc w v).cs = s.cs := by
  cases w <;> rfl
@[simp] theorem State.setAcc_ss (w : Width) (v : BitVec w.bits) :
    (s.setAcc w v).ss = s.ss := by
  cases w <;> rfl
@[simp] theorem State.setAcc_ds (w : Width) (v : BitVec w.bits) :
    (s.setAcc w v).ds = s.ds := by
  cases w <;> rfl
@[simp] theorem State.setAcc_ip (w : Width) (v : BitVec w.bits) :
    (s.setAcc w v).ip = s.ip := by
  cases w <;> rfl
@[simp] theorem State.setAcc_flags (w : Width) (v : BitVec w.bits) :
    (s.setAcc w v).flags = s.flags := by
  cases w <;> rfl
@[simp] theorem State.setAcc_run (w : Width) (v : BitVec w.bits) :
    (s.setAcc w v).run = s.run := by
  cases w <;> rfl
@[simp] theorem State.setAcc_fault (w : Width) (v : BitVec w.bits) :
    (s.setAcc w v).fault = s.fault := by
  cases w <;> rfl
@[simp] theorem State.setAcc_mem (w : Width) (v : BitVec w.bits) :
    (s.setAcc w v).mem = s.mem := by
  cases w <;> rfl
@[simp] theorem State.setAcc_io (w : Width) (v : BitVec w.bits) :
    (s.setAcc w v).io = s.io := by
  cases w <;> rfl
@[simp] theorem State.setAcc_draws (w : Width) (v : BitVec w.bits) :
    (s.setAcc w v).draws = s.draws := by
  cases w <;> rfl

/-! ### setSreg -/

@[simp] theorem State.setSreg_ax (r : SReg) (v : Word) :
    (s.setSreg r v).ax = s.ax := by
  cases r <;> rfl
@[simp] theorem State.setSreg_cx (r : SReg) (v : Word) :
    (s.setSreg r v).cx = s.cx := by
  cases r <;> rfl
@[simp] theorem State.setSreg_dx (r : SReg) (v : Word) :
    (s.setSreg r v).dx = s.dx := by
  cases r <;> rfl
@[simp] theorem State.setSreg_bx (r : SReg) (v : Word) :
    (s.setSreg r v).bx = s.bx := by
  cases r <;> rfl
@[simp] theorem State.setSreg_sp (r : SReg) (v : Word) :
    (s.setSreg r v).sp = s.sp := by
  cases r <;> rfl
@[simp] theorem State.setSreg_bp (r : SReg) (v : Word) :
    (s.setSreg r v).bp = s.bp := by
  cases r <;> rfl
@[simp] theorem State.setSreg_si (r : SReg) (v : Word) :
    (s.setSreg r v).si = s.si := by
  cases r <;> rfl
@[simp] theorem State.setSreg_di (r : SReg) (v : Word) :
    (s.setSreg r v).di = s.di := by
  cases r <;> rfl
@[simp] theorem State.setSreg_ip (r : SReg) (v : Word) :
    (s.setSreg r v).ip = s.ip := by
  cases r <;> rfl
@[simp] theorem State.setSreg_flags (r : SReg) (v : Word) :
    (s.setSreg r v).flags = s.flags := by
  cases r <;> rfl
@[simp] theorem State.setSreg_run (r : SReg) (v : Word) :
    (s.setSreg r v).run = s.run := by
  cases r <;> rfl
@[simp] theorem State.setSreg_fault (r : SReg) (v : Word) :
    (s.setSreg r v).fault = s.fault := by
  cases r <;> rfl
@[simp] theorem State.setSreg_mem (r : SReg) (v : Word) :
    (s.setSreg r v).mem = s.mem := by
  cases r <;> rfl
@[simp] theorem State.setSreg_io (r : SReg) (v : Word) :
    (s.setSreg r v).io = s.io := by
  cases r <;> rfl
@[simp] theorem State.setSreg_draws (r : SReg) (v : Word) :
    (s.setSreg r v).draws = s.draws := by
  cases r <;> rfl

/-! ### writeLoc -/

@[simp] theorem State.writeLoc_es (w : Width) (l : Loc) (v : BitVec w.bits) :
    (s.writeLoc w l v).es = s.es := by
  cases l <;> simp [State.writeLoc]
@[simp] theorem State.writeLoc_cs (w : Width) (l : Loc) (v : BitVec w.bits) :
    (s.writeLoc w l v).cs = s.cs := by
  cases l <;> simp [State.writeLoc]
@[simp] theorem State.writeLoc_ss (w : Width) (l : Loc) (v : BitVec w.bits) :
    (s.writeLoc w l v).ss = s.ss := by
  cases l <;> simp [State.writeLoc]
@[simp] theorem State.writeLoc_ds (w : Width) (l : Loc) (v : BitVec w.bits) :
    (s.writeLoc w l v).ds = s.ds := by
  cases l <;> simp [State.writeLoc]
@[simp] theorem State.writeLoc_ip (w : Width) (l : Loc) (v : BitVec w.bits) :
    (s.writeLoc w l v).ip = s.ip := by
  cases l <;> simp [State.writeLoc]
@[simp] theorem State.writeLoc_flags (w : Width) (l : Loc) (v : BitVec w.bits) :
    (s.writeLoc w l v).flags = s.flags := by
  cases l <;> simp [State.writeLoc]
@[simp] theorem State.writeLoc_run (w : Width) (l : Loc) (v : BitVec w.bits) :
    (s.writeLoc w l v).run = s.run := by
  cases l <;> simp [State.writeLoc]
@[simp] theorem State.writeLoc_fault (w : Width) (l : Loc) (v : BitVec w.bits) :
    (s.writeLoc w l v).fault = s.fault := by
  cases l <;> simp [State.writeLoc]
@[simp] theorem State.writeLoc_io (w : Width) (l : Loc) (v : BitVec w.bits) :
    (s.writeLoc w l v).io = s.io := by
  cases l <;> simp [State.writeLoc]
@[simp] theorem State.writeLoc_draws (w : Width) (l : Loc) (v : BitVec w.bits) :
    (s.writeLoc w l v).draws = s.draws := by
  cases l <;> simp [State.writeLoc]

/-! ### setProduct -/

@[simp] theorem State.setProduct_cx (w : Width) (p : Int) :
    (s.setProduct w p).cx = s.cx := by
  cases w <;> rfl
@[simp] theorem State.setProduct_bx (w : Width) (p : Int) :
    (s.setProduct w p).bx = s.bx := by
  cases w <;> rfl
@[simp] theorem State.setProduct_sp (w : Width) (p : Int) :
    (s.setProduct w p).sp = s.sp := by
  cases w <;> rfl
@[simp] theorem State.setProduct_bp (w : Width) (p : Int) :
    (s.setProduct w p).bp = s.bp := by
  cases w <;> rfl
@[simp] theorem State.setProduct_si (w : Width) (p : Int) :
    (s.setProduct w p).si = s.si := by
  cases w <;> rfl
@[simp] theorem State.setProduct_di (w : Width) (p : Int) :
    (s.setProduct w p).di = s.di := by
  cases w <;> rfl
@[simp] theorem State.setProduct_es (w : Width) (p : Int) :
    (s.setProduct w p).es = s.es := by
  cases w <;> rfl
@[simp] theorem State.setProduct_cs (w : Width) (p : Int) :
    (s.setProduct w p).cs = s.cs := by
  cases w <;> rfl
@[simp] theorem State.setProduct_ss (w : Width) (p : Int) :
    (s.setProduct w p).ss = s.ss := by
  cases w <;> rfl
@[simp] theorem State.setProduct_ds (w : Width) (p : Int) :
    (s.setProduct w p).ds = s.ds := by
  cases w <;> rfl
@[simp] theorem State.setProduct_ip (w : Width) (p : Int) :
    (s.setProduct w p).ip = s.ip := by
  cases w <;> rfl
@[simp] theorem State.setProduct_flags (w : Width) (p : Int) :
    (s.setProduct w p).flags = s.flags := by
  cases w <;> rfl
@[simp] theorem State.setProduct_run (w : Width) (p : Int) :
    (s.setProduct w p).run = s.run := by
  cases w <;> rfl
@[simp] theorem State.setProduct_fault (w : Width) (p : Int) :
    (s.setProduct w p).fault = s.fault := by
  cases w <;> rfl
@[simp] theorem State.setProduct_mem (w : Width) (p : Int) :
    (s.setProduct w p).mem = s.mem := by
  cases w <;> rfl
@[simp] theorem State.setProduct_io (w : Width) (p : Int) :
    (s.setProduct w p).io = s.io := by
  cases w <;> rfl
@[simp] theorem State.setProduct_draws (w : Width) (p : Int) :
    (s.setProduct w p).draws = s.draws := by
  cases w <;> rfl

/-! ### setQuotient -/

@[simp] theorem State.setQuotient_cx (w : Width) (q r : BitVec w.bits) :
    (s.setQuotient w q r).cx = s.cx := by
  cases w <;> rfl
@[simp] theorem State.setQuotient_bx (w : Width) (q r : BitVec w.bits) :
    (s.setQuotient w q r).bx = s.bx := by
  cases w <;> rfl
@[simp] theorem State.setQuotient_sp (w : Width) (q r : BitVec w.bits) :
    (s.setQuotient w q r).sp = s.sp := by
  cases w <;> rfl
@[simp] theorem State.setQuotient_bp (w : Width) (q r : BitVec w.bits) :
    (s.setQuotient w q r).bp = s.bp := by
  cases w <;> rfl
@[simp] theorem State.setQuotient_si (w : Width) (q r : BitVec w.bits) :
    (s.setQuotient w q r).si = s.si := by
  cases w <;> rfl
@[simp] theorem State.setQuotient_di (w : Width) (q r : BitVec w.bits) :
    (s.setQuotient w q r).di = s.di := by
  cases w <;> rfl
@[simp] theorem State.setQuotient_es (w : Width) (q r : BitVec w.bits) :
    (s.setQuotient w q r).es = s.es := by
  cases w <;> rfl
@[simp] theorem State.setQuotient_cs (w : Width) (q r : BitVec w.bits) :
    (s.setQuotient w q r).cs = s.cs := by
  cases w <;> rfl
@[simp] theorem State.setQuotient_ss (w : Width) (q r : BitVec w.bits) :
    (s.setQuotient w q r).ss = s.ss := by
  cases w <;> rfl
@[simp] theorem State.setQuotient_ds (w : Width) (q r : BitVec w.bits) :
    (s.setQuotient w q r).ds = s.ds := by
  cases w <;> rfl
@[simp] theorem State.setQuotient_ip (w : Width) (q r : BitVec w.bits) :
    (s.setQuotient w q r).ip = s.ip := by
  cases w <;> rfl
@[simp] theorem State.setQuotient_flags (w : Width) (q r : BitVec w.bits) :
    (s.setQuotient w q r).flags = s.flags := by
  cases w <;> rfl
@[simp] theorem State.setQuotient_run (w : Width) (q r : BitVec w.bits) :
    (s.setQuotient w q r).run = s.run := by
  cases w <;> rfl
@[simp] theorem State.setQuotient_fault (w : Width) (q r : BitVec w.bits) :
    (s.setQuotient w q r).fault = s.fault := by
  cases w <;> rfl
@[simp] theorem State.setQuotient_mem (w : Width) (q r : BitVec w.bits) :
    (s.setQuotient w q r).mem = s.mem := by
  cases w <;> rfl
@[simp] theorem State.setQuotient_io (w : Width) (q r : BitVec w.bits) :
    (s.setQuotient w q r).io = s.io := by
  cases w <;> rfl
@[simp] theorem State.setQuotient_draws (w : Width) (q r : BitVec w.bits) :
    (s.setQuotient w q r).draws = s.draws := by
  cases w <;> rfl

end Sys2Proof.Machine
end

