-- ==== Sys2Proof/Laws/Operations.lean ====
section
/-! SUPPORT. The laws of the shared operations: registers, locations, the stack, ports, prefixes in force. -/

namespace Sys2Proof.Machine

/-! ### Registers -/

/-- Reading any byte register after writing one (R22, R23). -/
theorem State.reg8_setReg8 (s : State) (r q : RegNum) (v : Byte) :
    (s.setReg8 r v).reg8 q = if q = r then v else s.reg8 q := by
  cases r <;> cases q <;> simp [State.reg8, State.setReg8, withLo, withHi]

/-- Reading any word register after writing one (R22, R23). -/
theorem State.reg16_setReg16 (s : State) (r q : RegNum) (v : Word) :
    (s.setReg16 r v).reg16 q = if q = r then v else s.reg16 q := by
  cases r <;> cases q <;> simp [State.reg16, State.setReg16]

@[simp] theorem State.reg_setReg_same (s : State) (w : Width) (r : RegNum) (v : BitVec w.bits) :
    (s.setReg w r v).reg w r = v := by
  cases w
  · simp [State.reg, State.setReg, State.reg8_setReg8]
  · simp [State.reg, State.setReg, State.reg16_setReg16]

/-- Writing a register of either width and another register of the same width. -/
theorem State.reg_setReg (s : State) (w : Width) (r q : RegNum) (v : BitVec w.bits) :
    (s.setReg w r v).reg w q = if q = r then v else s.reg w q := by
  cases w
  · exact s.reg8_setReg8 r q v
  · exact s.reg16_setReg16 r q v

/-- Reading any segment register after writing one (R28, R29). -/
theorem State.sreg_setSreg (s : State) (r q : SReg) (v : Word) :
    (s.setSreg r v).sreg q = if q = r then v else s.sreg q := by
  cases r <;> cases q <;> simp [State.sreg, State.setSreg]

/-- The general and index registers are not touched by a segment register write. -/
@[simp] theorem State.reg16_setSreg (s : State) (r : SReg) (q : RegNum) (v : Word) :
    (s.setSreg r v).reg16 q = s.reg16 q := by
  cases r <;> cases q <;> rfl

@[simp] theorem State.reg8_setSreg (s : State) (r : SReg) (q : RegNum) (v : Word) :
    (s.setSreg r v).reg8 q = s.reg8 q := by
  cases r <;> cases q <;> rfl

/-- AX is AH ++ AL, and so for CX, DX, BX (R20). -/
theorem State.reg16_halves (s : State) :
    s.ax = mkWord (s.reg8 .r4) (s.reg8 .r0) ∧ s.cx = mkWord (s.reg8 .r5) (s.reg8 .r1) ∧
      s.dx = mkWord (s.reg8 .r6) (s.reg8 .r2) ∧ s.bx = mkWord (s.reg8 .r7) (s.reg8 .r3) := by
  simp [State.reg8]

/-! ### Locations -/

/-- Reading a location back after writing it (R114, R115). -/
@[simp] theorem State.readLoc_writeLoc_same (s : State) (w : Width) (l : Loc) (v : BitVec w.bits) :
    (s.writeLoc w l v).readLoc w l = v := by
  cases l
  · exact s.reg_setReg_same w _ v
  · exact Memory.read_write_same _ w _ v

theorem State.setAcc_eq (s : State) (w : Width) (v : BitVec w.bits) : s.setAcc w v = s.writeLoc w accLoc v := rfl

theorem State.acc_eq (s : State) (w : Width) : s.acc w = s.readLoc w accLoc := rfl

/-- What a read sees of a state: a location's value depends on the registers and on memory only. -/
theorem State.readLoc_congr {s t : State} (w : Width) (l : Loc) (hax : t.ax = s.ax) (hcx : t.cx = s.cx)
    (hdx : t.dx = s.dx) (hbx : t.bx = s.bx) (hsp : t.sp = s.sp) (hbp : t.bp = s.bp) (hsi : t.si = s.si)
    (hdi : t.di = s.di) (hm : t.mem = s.mem) : t.readLoc w l = s.readLoc w l := by
  cases l with
  | reg r => cases w <;> cases r <;> simp [State.readLoc, State.reg, State.reg8, State.reg16, *]
  | mem seg off => simp [State.readLoc, State.read, hm]

/-- A location is written, then FLAGS replaced: the order does not matter. -/
theorem State.setFlags_writeLoc (s : State) (w : Width) (l : Loc) (v : BitVec w.bits) (fl : Word) :
    (s.setFlags fl).writeLoc w l v = (s.writeLoc w l v).setFlags fl := by
  cases l with
  | reg r => cases w <;> cases r <;> rfl
  | mem seg off => rfl

theorem State.undef_writeLoc (s : State) (w : Width) (l : Loc) (v : BitVec w.bits) (fs : List Flag) :
    (s.undef fs).writeLoc w l v = (s.writeLoc w l v).undef fs := by
  cases l with
  | reg r => cases w <;> cases r <;> rfl
  | mem seg off => rfl

/-! ### The stack -/

/-- The word pushed is read back by the next pop (R209). -/
@[simp] theorem State.stackTop_push16 (s : State) (v : Word) : (s.push16 v).stackTop = v := by
  simp [State.stackTop, State.read]

/-- A push and a pop restore SP and leave every register as it was (R209). -/
theorem State.pop16_push16 (s : State) (v : Word) :
    (s.push16 v).pop16 = { s with mem := s.mem.write .word (phys s.ss (s.sp - 2)) v } := by
  simp [State.push16, State.pop16, State.write]

/-- Outside the two bytes of the new stack slot a push leaves memory alone. -/
theorem State.byteAt_push16 (s : State) (v : Word) (a : PAddr)
    (h : a ∉ accessBytes .word (phys s.ss (s.sp - 2))) : (s.push16 v).mem.byteAt a = s.mem.byteAt a :=
  Memory.byteAt_write_other _ _ _ _ _ h

/-! ### Prefixes in force (R102) -/

theorem Ctx.push_count (c : Ctx) (p : Prefix) : (c.push p).count = c.count + 1 := by cases p <;> rfl

theorem Ctx.foldl_push_count (c : Ctx) (ps : List Prefix) : (ps.foldl Ctx.push c).count = c.count + ps.length := by
  induction ps generalizing c with
  | nil => rfl
  | cons p ps ih => rw [List.foldl_cons, ih, Ctx.push_count, List.length_cons]; omega

@[simp] theorem Ctx.ofPrefixes_count (ps : List Prefix) : (Ctx.ofPrefixes ps).count = ps.length := by
  simp [Ctx.ofPrefixes, Ctx.foldl_push_count, Ctx.plain]

/-- The segment a prefix overrides with. -/
def Prefix.seg? : Prefix → Option SReg
  | .seg r => some r
  | .lock | .repne | .rep => none

/-- The repetition a prefix asks for. -/
def Prefix.repeat? : Prefix → Option Repeat
  | .repne => some .repne
  | .rep => some .repe
  | .seg _ | .lock => none

theorem Ctx.foldl_push_segovr (c : Ctx) (ps : List Prefix) :
    (ps.foldl Ctx.push c).segovr = ((ps.filterMap Prefix.seg?).getLast?).or c.segovr := by
  induction ps generalizing c with
  | nil => simp
  | cons p ps ih =>
    rw [List.foldl_cons, ih]
    cases p <;> simp [Prefix.seg?, Ctx.push, List.getLast?_cons]

theorem Ctx.foldl_push_rep (c : Ctx) (ps : List Prefix) :
    (ps.foldl Ctx.push c).rep = ((ps.filterMap Prefix.repeat?).getLast?).or c.rep := by
  induction ps generalizing c with
  | nil => simp
  | cons p ps ih =>
    rw [List.foldl_cons, ih]
    cases p <;> simp [Prefix.repeat?, Ctx.push, List.getLast?_cons]

/-- The last override of a run of prefixes is in force (R102). -/
theorem Ctx.ofPrefixes_segovr (ps : List Prefix) :
    (Ctx.ofPrefixes ps).segovr = (ps.filterMap Prefix.seg?).getLast? := by
  simp [Ctx.ofPrefixes, Ctx.foldl_push_segovr, Ctx.plain]

/-- The last repeat prefix of a run is in force (R102). -/
theorem Ctx.ofPrefixes_rep (ps : List Prefix) :
    (Ctx.ofPrefixes ps).rep = (ps.filterMap Prefix.repeat?).getLast? := by
  simp [Ctx.ofPrefixes, Ctx.foldl_push_rep, Ctx.plain]

end Sys2Proof.Machine
end

