-- ==== Sys2Proof/Laws/Exec.lean ====
section
/-! SUPPORT. An instruction as its prefixes and its body: how `exec`, the encoder and the length see them. -/

namespace Sys2Proof

theorem Instr.withPrefix_body (p : Prefix) (i : Instr) : (i.withPrefix p).body = i.body := by
  rcases p with ⟨_ | _ | _ | _⟩ | _ | _ | _ <;> rfl

theorem Instr.withPrefix_prefixes (p : Prefix) (i : Instr) : (i.withPrefix p).prefixes = p :: i.prefixes := by
  rcases p with ⟨_ | _ | _ | _⟩ | _ | _ | _ <;> rfl

theorem Instr.withPrefix_prefixCount (p : Prefix) (i : Instr) : (i.withPrefix p).prefixCount = i.prefixCount + 1 := by
  rcases p with ⟨_ | _ | _ | _⟩ | _ | _ | _ <;> rfl

theorem Instr.withPrefix_operandsOk (p : Prefix) (i : Instr) : (i.withPrefix p).operandsOk = i.operandsOk := by
  rcases p with ⟨_ | _ | _ | _⟩ | _ | _ | _ <;> rfl

theorem Instr.withPrefix_len (p : Prefix) (i : Instr) : (i.withPrefix p).len = i.len + 1 := by
  rcases p with ⟨_ | _ | _ | _⟩ | _ | _ | _ <;> rfl

@[simp] theorem Instr.withPrefix_cls (p : Prefix) (i : Instr) : (i.withPrefix p).cls = i.cls := by
  rcases p with ⟨_ | _ | _ | _⟩ | _ | _ | _ <;> rfl

@[simp] theorem prefixOf_byte (p : Prefix) : prefixOf p.byte = some p := by
  rcases p with ⟨_ | _ | _ | _⟩ | _ | _ | _ <;> rfl

theorem prefixOf_eq_some {b : Byte} {p : Prefix} (h : prefixOf b = some p) : b = p.byte := by
  unfold prefixOf at h
  split at h <;> first
    | (cases h; apply BitVec.eq_of_toNat_eq; assumption)
    | cases h

theorem encode_withPrefix (p : Prefix) (i : Instr) : encode (i.withPrefix p) = p.byte :: encode i := by
  rcases p with ⟨_ | _ | _ | _⟩ | _ | _ | _ <;> rfl

theorem encode_withPrefixes (ps : List Prefix) (i : Instr) :
    encode (i.withPrefixes ps) = ps.map Prefix.byte ++ encode i := by
  induction ps with
  | nil => rfl
  | cons p ps ih =>
    rw [Instr.withPrefixes] at *
    rw [List.foldr_cons, encode_withPrefix, ih]; rfl

theorem Instr.withPrefixes_cons (p : Prefix) (ps : List Prefix) (i : Instr) :
    i.withPrefixes (p :: ps) = (i.withPrefixes ps).withPrefix p := rfl

theorem Instr.withPrefixes_operandsOk (ps : List Prefix) (i : Instr) :
    (i.withPrefixes ps).operandsOk = i.operandsOk := by
  induction ps with
  | nil => rfl
  | cons p ps ih => rw [Instr.withPrefixes_cons, Instr.withPrefix_operandsOk, ih]

theorem Instr.withPrefixes_body (ps : List Prefix) (i : Instr) : (i.withPrefixes ps).body = i.body := by
  induction ps with
  | nil => rfl
  | cons p ps ih => rw [Instr.withPrefixes_cons, Instr.withPrefix_body, ih]

theorem Instr.withPrefixes_prefixCount (ps : List Prefix) (i : Instr) :
    (i.withPrefixes ps).prefixCount = ps.length + i.prefixCount := by
  induction ps with
  | nil => simp [Instr.withPrefixes]
  | cons p ps ih => rw [Instr.withPrefixes_cons, Instr.withPrefix_prefixCount, ih, List.length_cons]; omega

/-- An instruction is its body under its prefixes. -/
theorem Instr.body_withPrefixes (i : Instr) : i.body.withPrefixes i.prefixes = i := by
  induction i with
  | segEs rest ih => exact congrArg Instr.segEs ih
  | segCs rest ih => exact congrArg Instr.segCs ih
  | segSs rest ih => exact congrArg Instr.segSs ih
  | segDs rest ih => exact congrArg Instr.segDs ih
  | lock rest ih => exact congrArg Instr.lock ih
  | repne rest ih => exact congrArg Instr.repne ih
  | rep rest ih => exact congrArg Instr.rep ih
  | _ => rfl

theorem Instr.prefixes_length (i : Instr) : i.prefixes.length = i.prefixCount := by
  induction i with
  | segEs rest ih => exact congrArg (· + 1) ih
  | segCs rest ih => exact congrArg (· + 1) ih
  | segSs rest ih => exact congrArg (· + 1) ih
  | segDs rest ih => exact congrArg (· + 1) ih
  | lock rest ih => exact congrArg (· + 1) ih
  | repne rest ih => exact congrArg (· + 1) ih
  | rep rest ih => exact congrArg (· + 1) ih
  | _ => rfl

@[simp] theorem Instr.withPrefixes_cls (ps : List Prefix) (i : Instr) : (i.withPrefixes ps).cls = i.cls := by
  induction ps with
  | nil => rfl
  | cons p ps ih => rw [Instr.withPrefixes_cons, Instr.withPrefix_cls, ih]

/-- The class is the body's: a prefix has none of its own (R101, R122). -/
theorem Instr.cls_body (i : Instr) : i.body.cls = i.cls := by
  conv_rhs => rw [← Instr.body_withPrefixes i, Instr.withPrefixes_cls]

theorem Instr.body_prefixCount (i : Instr) : i.body.prefixCount = 0 := by
  induction i with
  | segEs rest ih => exact ih
  | segCs rest ih => exact ih
  | segSs rest ih => exact ih
  | segDs rest ih => exact ih
  | lock rest ih => exact ih
  | repne rest ih => exact ih
  | rep rest ih => exact ih
  | _ => rfl

end Sys2Proof

namespace Sys2Proof.Machine

/-- `exec` is `execUnder` with no prefixes consumed. -/
theorem exec_eq (i : Instr) (s : State) : exec i s = execUnder .plain i s := by cases i <;> rfl

theorem execUnder_withPrefix (c : Ctx) (p : Prefix) (i : Instr) (s : State) :
    execUnder c (i.withPrefix p) s = execUnder (c.push p) i s := by
  rcases p with ⟨_ | _ | _ | _⟩ | _ | _ | _ <;> rfl

theorem execUnder_withPrefixes (c : Ctx) (ps : List Prefix) (i : Instr) (s : State) :
    execUnder c (i.withPrefixes ps) s = execUnder (ps.foldl Ctx.push c) i s := by
  induction ps generalizing c with
  | nil => rfl
  | cons p ps ih => rw [Instr.withPrefixes_cons, execUnder_withPrefix, ih]; rfl

/-- An instruction behind a run of prefixes runs with what the whole run leaves (R102). -/
theorem exec_withPrefixes (ps : List Prefix) (i : Instr) (s : State) :
    exec (i.withPrefixes ps) s = execUnder (Ctx.ofPrefixes ps) i s := by
  rw [exec_eq, execUnder_withPrefixes]; rfl

/-- Every instruction is its body, run with what its prefixes leave. -/
theorem exec_body (i : Instr) (s : State) : exec i s = execUnder (Ctx.ofPrefixes i.prefixes) i.body s := by
  rw [← exec_withPrefixes, Instr.body_withPrefixes]

end Sys2Proof.Machine
end

