-- ==== Sys2Proof/Laws/Frame.lean ====
section
/-! SUPPORT. The frames of the shared operations that the meanings are built from: one lemma for each field an operation
leaves as it was, and one for the FLAGS bits it leaves. -/

namespace Sys2Proof.Machine

variable (s : State)


/-! ### State.alu -/

@[simp] theorem State.alu_es (op : AluOp) (w : Width) (l : Loc) (b : BitVec w.bits) :
    (s.alu op w l b).es = s.es := by
  cases op <;> simp [State.alu, AluOp.setFlags, AluOp.writes]
@[simp] theorem State.alu_cs (op : AluOp) (w : Width) (l : Loc) (b : BitVec w.bits) :
    (s.alu op w l b).cs = s.cs := by
  cases op <;> simp [State.alu, AluOp.setFlags, AluOp.writes]
@[simp] theorem State.alu_ss (op : AluOp) (w : Width) (l : Loc) (b : BitVec w.bits) :
    (s.alu op w l b).ss = s.ss := by
  cases op <;> simp [State.alu, AluOp.setFlags, AluOp.writes]
@[simp] theorem State.alu_ds (op : AluOp) (w : Width) (l : Loc) (b : BitVec w.bits) :
    (s.alu op w l b).ds = s.ds := by
  cases op <;> simp [State.alu, AluOp.setFlags, AluOp.writes]
@[simp] theorem State.alu_ip (op : AluOp) (w : Width) (l : Loc) (b : BitVec w.bits) :
    (s.alu op w l b).ip = s.ip := by
  cases op <;> simp [State.alu, AluOp.setFlags, AluOp.writes]
@[simp] theorem State.alu_run (op : AluOp) (w : Width) (l : Loc) (b : BitVec w.bits) :
    (s.alu op w l b).run = s.run := by
  cases op <;> simp [State.alu, AluOp.setFlags, AluOp.writes]
@[simp] theorem State.alu_fault (op : AluOp) (w : Width) (l : Loc) (b : BitVec w.bits) :
    (s.alu op w l b).fault = s.fault := by
  cases op <;> simp [State.alu, AluOp.setFlags, AluOp.writes]
@[simp] theorem State.alu_io (op : AluOp) (w : Width) (l : Loc) (b : BitVec w.bits) :
    (s.alu op w l b).io = s.io := by
  cases op <;> simp [State.alu, AluOp.setFlags, AluOp.writes]

/-! ### State.inc -/

@[simp] theorem State.inc_es (w : Width) (l : Loc) :
    (s.inc w l).es = s.es := by
  simp [State.inc]
@[simp] theorem State.inc_cs (w : Width) (l : Loc) :
    (s.inc w l).cs = s.cs := by
  simp [State.inc]
@[simp] theorem State.inc_ss (w : Width) (l : Loc) :
    (s.inc w l).ss = s.ss := by
  simp [State.inc]
@[simp] theorem State.inc_ds (w : Width) (l : Loc) :
    (s.inc w l).ds = s.ds := by
  simp [State.inc]
@[simp] theorem State.inc_ip (w : Width) (l : Loc) :
    (s.inc w l).ip = s.ip := by
  simp [State.inc]
@[simp] theorem State.inc_run (w : Width) (l : Loc) :
    (s.inc w l).run = s.run := by
  simp [State.inc]
@[simp] theorem State.inc_fault (w : Width) (l : Loc) :
    (s.inc w l).fault = s.fault := by
  simp [State.inc]
@[simp] theorem State.inc_io (w : Width) (l : Loc) :
    (s.inc w l).io = s.io := by
  simp [State.inc]
@[simp] theorem State.inc_draws (w : Width) (l : Loc) :
    (s.inc w l).draws = s.draws := by
  simp [State.inc]

/-! ### State.dec -/

@[simp] theorem State.dec_es (w : Width) (l : Loc) :
    (s.dec w l).es = s.es := by
  simp [State.dec]
@[simp] theorem State.dec_cs (w : Width) (l : Loc) :
    (s.dec w l).cs = s.cs := by
  simp [State.dec]
@[simp] theorem State.dec_ss (w : Width) (l : Loc) :
    (s.dec w l).ss = s.ss := by
  simp [State.dec]
@[simp] theorem State.dec_ds (w : Width) (l : Loc) :
    (s.dec w l).ds = s.ds := by
  simp [State.dec]
@[simp] theorem State.dec_ip (w : Width) (l : Loc) :
    (s.dec w l).ip = s.ip := by
  simp [State.dec]
@[simp] theorem State.dec_run (w : Width) (l : Loc) :
    (s.dec w l).run = s.run := by
  simp [State.dec]
@[simp] theorem State.dec_fault (w : Width) (l : Loc) :
    (s.dec w l).fault = s.fault := by
  simp [State.dec]
@[simp] theorem State.dec_io (w : Width) (l : Loc) :
    (s.dec w l).io = s.io := by
  simp [State.dec]
@[simp] theorem State.dec_draws (w : Width) (l : Loc) :
    (s.dec w l).draws = s.draws := by
  simp [State.dec]

/-! ### State.neg -/

@[simp] theorem State.neg_es (w : Width) (l : Loc) :
    (s.neg w l).es = s.es := by
  simp [State.neg]
@[simp] theorem State.neg_cs (w : Width) (l : Loc) :
    (s.neg w l).cs = s.cs := by
  simp [State.neg]
@[simp] theorem State.neg_ss (w : Width) (l : Loc) :
    (s.neg w l).ss = s.ss := by
  simp [State.neg]
@[simp] theorem State.neg_ds (w : Width) (l : Loc) :
    (s.neg w l).ds = s.ds := by
  simp [State.neg]
@[simp] theorem State.neg_ip (w : Width) (l : Loc) :
    (s.neg w l).ip = s.ip := by
  simp [State.neg]
@[simp] theorem State.neg_run (w : Width) (l : Loc) :
    (s.neg w l).run = s.run := by
  simp [State.neg]
@[simp] theorem State.neg_fault (w : Width) (l : Loc) :
    (s.neg w l).fault = s.fault := by
  simp [State.neg]
@[simp] theorem State.neg_io (w : Width) (l : Loc) :
    (s.neg w l).io = s.io := by
  simp [State.neg]
@[simp] theorem State.neg_draws (w : Width) (l : Loc) :
    (s.neg w l).draws = s.draws := by
  simp [State.neg]

/-! ### State.shift -/

@[simp] theorem State.shift_es (op : ShiftOp) (w : Width) (l : Loc) (c : Nat) :
    (s.shift op w l c).es = s.es := by
  simp only [State.shift]; split
  · rfl
  · split <;> simp
@[simp] theorem State.shift_cs (op : ShiftOp) (w : Width) (l : Loc) (c : Nat) :
    (s.shift op w l c).cs = s.cs := by
  simp only [State.shift]; split
  · rfl
  · split <;> simp
@[simp] theorem State.shift_ss (op : ShiftOp) (w : Width) (l : Loc) (c : Nat) :
    (s.shift op w l c).ss = s.ss := by
  simp only [State.shift]; split
  · rfl
  · split <;> simp
@[simp] theorem State.shift_ds (op : ShiftOp) (w : Width) (l : Loc) (c : Nat) :
    (s.shift op w l c).ds = s.ds := by
  simp only [State.shift]; split
  · rfl
  · split <;> simp
@[simp] theorem State.shift_ip (op : ShiftOp) (w : Width) (l : Loc) (c : Nat) :
    (s.shift op w l c).ip = s.ip := by
  simp only [State.shift]; split
  · rfl
  · split <;> simp
@[simp] theorem State.shift_run (op : ShiftOp) (w : Width) (l : Loc) (c : Nat) :
    (s.shift op w l c).run = s.run := by
  simp only [State.shift]; split
  · rfl
  · split <;> simp
@[simp] theorem State.shift_fault (op : ShiftOp) (w : Width) (l : Loc) (c : Nat) :
    (s.shift op w l c).fault = s.fault := by
  simp only [State.shift]; split
  · rfl
  · split <;> simp
@[simp] theorem State.shift_io (op : ShiftOp) (w : Width) (l : Loc) (c : Nat) :
    (s.shift op w l c).io = s.io := by
  simp only [State.shift]; split
  · rfl
  · split <;> simp

/-! ### State.inPort -/

@[simp] theorem State.inPort_cx (w : Width) (port : Word) :
    (s.inPort w port).cx = s.cx := by
  cases w <;> rfl
@[simp] theorem State.inPort_dx (w : Width) (port : Word) :
    (s.inPort w port).dx = s.dx := by
  cases w <;> rfl
@[simp] theorem State.inPort_bx (w : Width) (port : Word) :
    (s.inPort w port).bx = s.bx := by
  cases w <;> rfl
@[simp] theorem State.inPort_sp (w : Width) (port : Word) :
    (s.inPort w port).sp = s.sp := by
  cases w <;> rfl
@[simp] theorem State.inPort_bp (w : Width) (port : Word) :
    (s.inPort w port).bp = s.bp := by
  cases w <;> rfl
@[simp] theorem State.inPort_si (w : Width) (port : Word) :
    (s.inPort w port).si = s.si := by
  cases w <;> rfl
@[simp] theorem State.inPort_di (w : Width) (port : Word) :
    (s.inPort w port).di = s.di := by
  cases w <;> rfl
@[simp] theorem State.inPort_es (w : Width) (port : Word) :
    (s.inPort w port).es = s.es := by
  cases w <;> rfl
@[simp] theorem State.inPort_cs (w : Width) (port : Word) :
    (s.inPort w port).cs = s.cs := by
  cases w <;> rfl
@[simp] theorem State.inPort_ss (w : Width) (port : Word) :
    (s.inPort w port).ss = s.ss := by
  cases w <;> rfl
@[simp] theorem State.inPort_ds (w : Width) (port : Word) :
    (s.inPort w port).ds = s.ds := by
  cases w <;> rfl
@[simp] theorem State.inPort_ip (w : Width) (port : Word) :
    (s.inPort w port).ip = s.ip := by
  cases w <;> rfl
@[simp] theorem State.inPort_flags (w : Width) (port : Word) :
    (s.inPort w port).flags = s.flags := by
  cases w <;> rfl
@[simp] theorem State.inPort_run (w : Width) (port : Word) :
    (s.inPort w port).run = s.run := by
  cases w <;> rfl
@[simp] theorem State.inPort_fault (w : Width) (port : Word) :
    (s.inPort w port).fault = s.fault := by
  cases w <;> rfl
@[simp] theorem State.inPort_mem (w : Width) (port : Word) :
    (s.inPort w port).mem = s.mem := by
  cases w <;> rfl

/-! ### State.asciiAdjust -/

@[simp] theorem State.asciiAdjust_cx (six one : Byte) :
    (s.asciiAdjust six one).cx = s.cx := by
  rfl
@[simp] theorem State.asciiAdjust_dx (six one : Byte) :
    (s.asciiAdjust six one).dx = s.dx := by
  rfl
@[simp] theorem State.asciiAdjust_bx (six one : Byte) :
    (s.asciiAdjust six one).bx = s.bx := by
  rfl
@[simp] theorem State.asciiAdjust_sp (six one : Byte) :
    (s.asciiAdjust six one).sp = s.sp := by
  rfl
@[simp] theorem State.asciiAdjust_bp (six one : Byte) :
    (s.asciiAdjust six one).bp = s.bp := by
  rfl
@[simp] theorem State.asciiAdjust_si (six one : Byte) :
    (s.asciiAdjust six one).si = s.si := by
  rfl
@[simp] theorem State.asciiAdjust_di (six one : Byte) :
    (s.asciiAdjust six one).di = s.di := by
  rfl
@[simp] theorem State.asciiAdjust_es (six one : Byte) :
    (s.asciiAdjust six one).es = s.es := by
  rfl
@[simp] theorem State.asciiAdjust_cs (six one : Byte) :
    (s.asciiAdjust six one).cs = s.cs := by
  rfl
@[simp] theorem State.asciiAdjust_ss (six one : Byte) :
    (s.asciiAdjust six one).ss = s.ss := by
  rfl
@[simp] theorem State.asciiAdjust_ds (six one : Byte) :
    (s.asciiAdjust six one).ds = s.ds := by
  rfl
@[simp] theorem State.asciiAdjust_ip (six one : Byte) :
    (s.asciiAdjust six one).ip = s.ip := by
  rfl
@[simp] theorem State.asciiAdjust_run (six one : Byte) :
    (s.asciiAdjust six one).run = s.run := by
  rfl
@[simp] theorem State.asciiAdjust_fault (six one : Byte) :
    (s.asciiAdjust six one).fault = s.fault := by
  rfl
@[simp] theorem State.asciiAdjust_mem (six one : Byte) :
    (s.asciiAdjust six one).mem = s.mem := by
  rfl
@[simp] theorem State.asciiAdjust_io (six one : Byte) :
    (s.asciiAdjust six one).io = s.io := by
  rfl

/-! ### State.decimalAdjust -/

@[simp] theorem State.decimalAdjust_cx (six sixty : Byte) :
    (s.decimalAdjust six sixty).cx = s.cx := by
  rfl
@[simp] theorem State.decimalAdjust_dx (six sixty : Byte) :
    (s.decimalAdjust six sixty).dx = s.dx := by
  rfl
@[simp] theorem State.decimalAdjust_bx (six sixty : Byte) :
    (s.decimalAdjust six sixty).bx = s.bx := by
  rfl
@[simp] theorem State.decimalAdjust_sp (six sixty : Byte) :
    (s.decimalAdjust six sixty).sp = s.sp := by
  rfl
@[simp] theorem State.decimalAdjust_bp (six sixty : Byte) :
    (s.decimalAdjust six sixty).bp = s.bp := by
  rfl
@[simp] theorem State.decimalAdjust_si (six sixty : Byte) :
    (s.decimalAdjust six sixty).si = s.si := by
  rfl
@[simp] theorem State.decimalAdjust_di (six sixty : Byte) :
    (s.decimalAdjust six sixty).di = s.di := by
  rfl
@[simp] theorem State.decimalAdjust_es (six sixty : Byte) :
    (s.decimalAdjust six sixty).es = s.es := by
  rfl
@[simp] theorem State.decimalAdjust_cs (six sixty : Byte) :
    (s.decimalAdjust six sixty).cs = s.cs := by
  rfl
@[simp] theorem State.decimalAdjust_ss (six sixty : Byte) :
    (s.decimalAdjust six sixty).ss = s.ss := by
  rfl
@[simp] theorem State.decimalAdjust_ds (six sixty : Byte) :
    (s.decimalAdjust six sixty).ds = s.ds := by
  rfl
@[simp] theorem State.decimalAdjust_ip (six sixty : Byte) :
    (s.decimalAdjust six sixty).ip = s.ip := by
  rfl
@[simp] theorem State.decimalAdjust_run (six sixty : Byte) :
    (s.decimalAdjust six sixty).run = s.run := by
  rfl
@[simp] theorem State.decimalAdjust_fault (six sixty : Byte) :
    (s.decimalAdjust six sixty).fault = s.fault := by
  rfl
@[simp] theorem State.decimalAdjust_mem (six sixty : Byte) :
    (s.decimalAdjust six sixty).mem = s.mem := by
  rfl
@[simp] theorem State.decimalAdjust_io (six sixty : Byte) :
    (s.decimalAdjust six sixty).io = s.io := by
  rfl

/-! ### State.setAdjusted -/

@[simp] theorem State.setAdjusted_cx (ah al : Byte) :
    (s.setAdjusted ah al).cx = s.cx := by
  rfl
@[simp] theorem State.setAdjusted_dx (ah al : Byte) :
    (s.setAdjusted ah al).dx = s.dx := by
  rfl
@[simp] theorem State.setAdjusted_bx (ah al : Byte) :
    (s.setAdjusted ah al).bx = s.bx := by
  rfl
@[simp] theorem State.setAdjusted_sp (ah al : Byte) :
    (s.setAdjusted ah al).sp = s.sp := by
  rfl
@[simp] theorem State.setAdjusted_bp (ah al : Byte) :
    (s.setAdjusted ah al).bp = s.bp := by
  rfl
@[simp] theorem State.setAdjusted_si (ah al : Byte) :
    (s.setAdjusted ah al).si = s.si := by
  rfl
@[simp] theorem State.setAdjusted_di (ah al : Byte) :
    (s.setAdjusted ah al).di = s.di := by
  rfl
@[simp] theorem State.setAdjusted_es (ah al : Byte) :
    (s.setAdjusted ah al).es = s.es := by
  rfl
@[simp] theorem State.setAdjusted_cs (ah al : Byte) :
    (s.setAdjusted ah al).cs = s.cs := by
  rfl
@[simp] theorem State.setAdjusted_ss (ah al : Byte) :
    (s.setAdjusted ah al).ss = s.ss := by
  rfl
@[simp] theorem State.setAdjusted_ds (ah al : Byte) :
    (s.setAdjusted ah al).ds = s.ds := by
  rfl
@[simp] theorem State.setAdjusted_ip (ah al : Byte) :
    (s.setAdjusted ah al).ip = s.ip := by
  rfl
@[simp] theorem State.setAdjusted_run (ah al : Byte) :
    (s.setAdjusted ah al).run = s.run := by
  rfl
@[simp] theorem State.setAdjusted_fault (ah al : Byte) :
    (s.setAdjusted ah al).fault = s.fault := by
  rfl
@[simp] theorem State.setAdjusted_mem (ah al : Byte) :
    (s.setAdjusted ah al).mem = s.mem := by
  rfl
@[simp] theorem State.setAdjusted_io (ah al : Byte) :
    (s.setAdjusted ah al).io = s.io := by
  rfl

/-! ### State.stringOnce -/

@[simp] theorem State.stringOnce_cx (op : StringOp) (w : Width) (c : Ctx) :
    (s.stringOnce op w c).cx = s.cx := by
  cases op <;> cases w <;> rfl
@[simp] theorem State.stringOnce_dx (op : StringOp) (w : Width) (c : Ctx) :
    (s.stringOnce op w c).dx = s.dx := by
  cases op <;> cases w <;> rfl
@[simp] theorem State.stringOnce_bx (op : StringOp) (w : Width) (c : Ctx) :
    (s.stringOnce op w c).bx = s.bx := by
  cases op <;> cases w <;> rfl
@[simp] theorem State.stringOnce_sp (op : StringOp) (w : Width) (c : Ctx) :
    (s.stringOnce op w c).sp = s.sp := by
  cases op <;> cases w <;> rfl
@[simp] theorem State.stringOnce_bp (op : StringOp) (w : Width) (c : Ctx) :
    (s.stringOnce op w c).bp = s.bp := by
  cases op <;> cases w <;> rfl
@[simp] theorem State.stringOnce_es (op : StringOp) (w : Width) (c : Ctx) :
    (s.stringOnce op w c).es = s.es := by
  cases op <;> cases w <;> rfl
@[simp] theorem State.stringOnce_cs (op : StringOp) (w : Width) (c : Ctx) :
    (s.stringOnce op w c).cs = s.cs := by
  cases op <;> cases w <;> rfl
@[simp] theorem State.stringOnce_ss (op : StringOp) (w : Width) (c : Ctx) :
    (s.stringOnce op w c).ss = s.ss := by
  cases op <;> cases w <;> rfl
@[simp] theorem State.stringOnce_ds (op : StringOp) (w : Width) (c : Ctx) :
    (s.stringOnce op w c).ds = s.ds := by
  cases op <;> cases w <;> rfl
@[simp] theorem State.stringOnce_ip (op : StringOp) (w : Width) (c : Ctx) :
    (s.stringOnce op w c).ip = s.ip := by
  cases op <;> cases w <;> rfl
@[simp] theorem State.stringOnce_run (op : StringOp) (w : Width) (c : Ctx) :
    (s.stringOnce op w c).run = s.run := by
  cases op <;> cases w <;> rfl
@[simp] theorem State.stringOnce_fault (op : StringOp) (w : Width) (c : Ctx) :
    (s.stringOnce op w c).fault = s.fault := by
  cases op <;> cases w <;> rfl
@[simp] theorem State.stringOnce_io (op : StringOp) (w : Width) (c : Ctx) :
    (s.stringOnce op w c).io = s.io := by
  cases op <;> cases w <;> rfl
@[simp] theorem State.stringOnce_draws (op : StringOp) (w : Width) (c : Ctx) :
    (s.stringOnce op w c).draws = s.draws := by
  cases op <;> cases w <;> rfl
@[simp] theorem State.stringLoop_dx (op : StringOp) (w : Width) (c : Ctx) (r : Repeat) (n : Nat) :
    (State.stringLoop op w c r n s).dx = s.dx := by
  induction n generalizing s with
  | zero => rfl
  | succ n ih =>
    simp only [State.stringLoop]
    split
    · simp
    · rw [ih]; simp
@[simp] theorem State.stringLoop_bx (op : StringOp) (w : Width) (c : Ctx) (r : Repeat) (n : Nat) :
    (State.stringLoop op w c r n s).bx = s.bx := by
  induction n generalizing s with
  | zero => rfl
  | succ n ih =>
    simp only [State.stringLoop]
    split
    · simp
    · rw [ih]; simp
@[simp] theorem State.stringLoop_sp (op : StringOp) (w : Width) (c : Ctx) (r : Repeat) (n : Nat) :
    (State.stringLoop op w c r n s).sp = s.sp := by
  induction n generalizing s with
  | zero => rfl
  | succ n ih =>
    simp only [State.stringLoop]
    split
    · simp
    · rw [ih]; simp
@[simp] theorem State.stringLoop_bp (op : StringOp) (w : Width) (c : Ctx) (r : Repeat) (n : Nat) :
    (State.stringLoop op w c r n s).bp = s.bp := by
  induction n generalizing s with
  | zero => rfl
  | succ n ih =>
    simp only [State.stringLoop]
    split
    · simp
    · rw [ih]; simp
@[simp] theorem State.stringLoop_es (op : StringOp) (w : Width) (c : Ctx) (r : Repeat) (n : Nat) :
    (State.stringLoop op w c r n s).es = s.es := by
  induction n generalizing s with
  | zero => rfl
  | succ n ih =>
    simp only [State.stringLoop]
    split
    · simp
    · rw [ih]; simp
@[simp] theorem State.stringLoop_cs (op : StringOp) (w : Width) (c : Ctx) (r : Repeat) (n : Nat) :
    (State.stringLoop op w c r n s).cs = s.cs := by
  induction n generalizing s with
  | zero => rfl
  | succ n ih =>
    simp only [State.stringLoop]
    split
    · simp
    · rw [ih]; simp
@[simp] theorem State.stringLoop_ss (op : StringOp) (w : Width) (c : Ctx) (r : Repeat) (n : Nat) :
    (State.stringLoop op w c r n s).ss = s.ss := by
  induction n generalizing s with
  | zero => rfl
  | succ n ih =>
    simp only [State.stringLoop]
    split
    · simp
    · rw [ih]; simp
@[simp] theorem State.stringLoop_ds (op : StringOp) (w : Width) (c : Ctx) (r : Repeat) (n : Nat) :
    (State.stringLoop op w c r n s).ds = s.ds := by
  induction n generalizing s with
  | zero => rfl
  | succ n ih =>
    simp only [State.stringLoop]
    split
    · simp
    · rw [ih]; simp
@[simp] theorem State.stringLoop_ip (op : StringOp) (w : Width) (c : Ctx) (r : Repeat) (n : Nat) :
    (State.stringLoop op w c r n s).ip = s.ip := by
  induction n generalizing s with
  | zero => rfl
  | succ n ih =>
    simp only [State.stringLoop]
    split
    · simp
    · rw [ih]; simp
@[simp] theorem State.stringLoop_run (op : StringOp) (w : Width) (c : Ctx) (r : Repeat) (n : Nat) :
    (State.stringLoop op w c r n s).run = s.run := by
  induction n generalizing s with
  | zero => rfl
  | succ n ih =>
    simp only [State.stringLoop]
    split
    · simp
    · rw [ih]; simp
@[simp] theorem State.stringLoop_fault (op : StringOp) (w : Width) (c : Ctx) (r : Repeat) (n : Nat) :
    (State.stringLoop op w c r n s).fault = s.fault := by
  induction n generalizing s with
  | zero => rfl
  | succ n ih =>
    simp only [State.stringLoop]
    split
    · simp
    · rw [ih]; simp
@[simp] theorem State.stringLoop_io (op : StringOp) (w : Width) (c : Ctx) (r : Repeat) (n : Nat) :
    (State.stringLoop op w c r n s).io = s.io := by
  induction n generalizing s with
  | zero => rfl
  | succ n ih =>
    simp only [State.stringLoop]
    split
    · simp
    · rw [ih]; simp
@[simp] theorem State.stringLoop_draws (op : StringOp) (w : Width) (c : Ctx) (r : Repeat) (n : Nat) :
    (State.stringLoop op w c r n s).draws = s.draws := by
  induction n generalizing s with
  | zero => rfl
  | succ n ih =>
    simp only [State.stringLoop]
    split
    · simp
    · rw [ih]; simp
@[simp] theorem stringExec_dx (op : StringOp) (w : Width) (c : Ctx) : (stringExec op w c s).dx = s.dx := by
  simp only [stringExec]; split <;> simp
@[simp] theorem stringExec_bx (op : StringOp) (w : Width) (c : Ctx) : (stringExec op w c s).bx = s.bx := by
  simp only [stringExec]; split <;> simp
@[simp] theorem stringExec_sp (op : StringOp) (w : Width) (c : Ctx) : (stringExec op w c s).sp = s.sp := by
  simp only [stringExec]; split <;> simp
@[simp] theorem stringExec_bp (op : StringOp) (w : Width) (c : Ctx) : (stringExec op w c s).bp = s.bp := by
  simp only [stringExec]; split <;> simp
@[simp] theorem stringExec_es (op : StringOp) (w : Width) (c : Ctx) : (stringExec op w c s).es = s.es := by
  simp only [stringExec]; split <;> simp
@[simp] theorem stringExec_cs (op : StringOp) (w : Width) (c : Ctx) : (stringExec op w c s).cs = s.cs := by
  simp only [stringExec]; split <;> simp
@[simp] theorem stringExec_ss (op : StringOp) (w : Width) (c : Ctx) : (stringExec op w c s).ss = s.ss := by
  simp only [stringExec]; split <;> simp
@[simp] theorem stringExec_ds (op : StringOp) (w : Width) (c : Ctx) : (stringExec op w c s).ds = s.ds := by
  simp only [stringExec]; split <;> simp
@[simp] theorem stringExec_run (op : StringOp) (w : Width) (c : Ctx) : (stringExec op w c s).run = s.run := by
  simp only [stringExec]; split <;> simp
@[simp] theorem stringExec_fault (op : StringOp) (w : Width) (c : Ctx) : (stringExec op w c s).fault = s.fault := by
  simp only [stringExec]; split <;> simp
@[simp] theorem stringExec_io (op : StringOp) (w : Width) (c : Ctx) : (stringExec op w c s).io = s.io := by
  simp only [stringExec]; split <;> simp
@[simp] theorem stringExec_draws (op : StringOp) (w : Width) (c : Ctx) : (stringExec op w c s).draws = s.draws := by
  simp only [stringExec]; split <;> simp
@[simp] theorem stringExec_ip (op : StringOp) (w : Width) (c : Ctx) : (stringExec op w c s).ip = c.next 1 s := by
  simp only [stringExec, State.advance]; split <;> simp [Ctx.next]

/-! ### State.interrupt -/

@[simp] theorem State.interrupt_ax (t : Byte) (ret : Word) :
    (s.interrupt t ret).ax = s.ax := by
  rfl
@[simp] theorem State.interrupt_cx (t : Byte) (ret : Word) :
    (s.interrupt t ret).cx = s.cx := by
  rfl
@[simp] theorem State.interrupt_dx (t : Byte) (ret : Word) :
    (s.interrupt t ret).dx = s.dx := by
  rfl
@[simp] theorem State.interrupt_bx (t : Byte) (ret : Word) :
    (s.interrupt t ret).bx = s.bx := by
  rfl
@[simp] theorem State.interrupt_bp (t : Byte) (ret : Word) :
    (s.interrupt t ret).bp = s.bp := by
  rfl
@[simp] theorem State.interrupt_si (t : Byte) (ret : Word) :
    (s.interrupt t ret).si = s.si := by
  rfl
@[simp] theorem State.interrupt_di (t : Byte) (ret : Word) :
    (s.interrupt t ret).di = s.di := by
  rfl
@[simp] theorem State.interrupt_es (t : Byte) (ret : Word) :
    (s.interrupt t ret).es = s.es := by
  rfl
@[simp] theorem State.interrupt_ss (t : Byte) (ret : Word) :
    (s.interrupt t ret).ss = s.ss := by
  rfl
@[simp] theorem State.interrupt_ds (t : Byte) (ret : Word) :
    (s.interrupt t ret).ds = s.ds := by
  rfl
@[simp] theorem State.interrupt_run (t : Byte) (ret : Word) :
    (s.interrupt t ret).run = s.run := by
  rfl
@[simp] theorem State.interrupt_fault (t : Byte) (ret : Word) :
    (s.interrupt t ret).fault = s.fault := by
  rfl
@[simp] theorem State.interrupt_io (t : Byte) (ret : Word) :
    (s.interrupt t ret).io = s.io := by
  rfl
@[simp] theorem State.interrupt_draws (t : Byte) (ret : Word) :
    (s.interrupt t ret).draws = s.draws := by
  rfl

/-! ### State.interruptReturn -/

@[simp] theorem State.interruptReturn_ax  :
    (s.interruptReturn).ax = s.ax := by
  rfl
@[simp] theorem State.interruptReturn_cx  :
    (s.interruptReturn).cx = s.cx := by
  rfl
@[simp] theorem State.interruptReturn_dx  :
    (s.interruptReturn).dx = s.dx := by
  rfl
@[simp] theorem State.interruptReturn_bx  :
    (s.interruptReturn).bx = s.bx := by
  rfl
@[simp] theorem State.interruptReturn_bp  :
    (s.interruptReturn).bp = s.bp := by
  rfl
@[simp] theorem State.interruptReturn_si  :
    (s.interruptReturn).si = s.si := by
  rfl
@[simp] theorem State.interruptReturn_di  :
    (s.interruptReturn).di = s.di := by
  rfl
@[simp] theorem State.interruptReturn_es  :
    (s.interruptReturn).es = s.es := by
  rfl
@[simp] theorem State.interruptReturn_ss  :
    (s.interruptReturn).ss = s.ss := by
  rfl
@[simp] theorem State.interruptReturn_ds  :
    (s.interruptReturn).ds = s.ds := by
  rfl
@[simp] theorem State.interruptReturn_run  :
    (s.interruptReturn).run = s.run := by
  rfl
@[simp] theorem State.interruptReturn_fault  :
    (s.interruptReturn).fault = s.fault := by
  rfl
@[simp] theorem State.interruptReturn_mem  :
    (s.interruptReturn).mem = s.mem := by
  rfl
@[simp] theorem State.interruptReturn_io  :
    (s.interruptReturn).io = s.io := by
  rfl
@[simp] theorem State.interruptReturn_draws  :
    (s.interruptReturn).draws = s.draws := by
  rfl

/-! ### State.retFar -/

@[simp] theorem State.retFar_ax (n : Word) :
    (s.retFar n).ax = s.ax := by
  rfl
@[simp] theorem State.retFar_cx (n : Word) :
    (s.retFar n).cx = s.cx := by
  rfl
@[simp] theorem State.retFar_dx (n : Word) :
    (s.retFar n).dx = s.dx := by
  rfl
@[simp] theorem State.retFar_bx (n : Word) :
    (s.retFar n).bx = s.bx := by
  rfl
@[simp] theorem State.retFar_bp (n : Word) :
    (s.retFar n).bp = s.bp := by
  rfl
@[simp] theorem State.retFar_si (n : Word) :
    (s.retFar n).si = s.si := by
  rfl
@[simp] theorem State.retFar_di (n : Word) :
    (s.retFar n).di = s.di := by
  rfl
@[simp] theorem State.retFar_es (n : Word) :
    (s.retFar n).es = s.es := by
  rfl
@[simp] theorem State.retFar_ss (n : Word) :
    (s.retFar n).ss = s.ss := by
  rfl
@[simp] theorem State.retFar_ds (n : Word) :
    (s.retFar n).ds = s.ds := by
  rfl
@[simp] theorem State.retFar_flags (n : Word) :
    (s.retFar n).flags = s.flags := by
  rfl
@[simp] theorem State.retFar_run (n : Word) :
    (s.retFar n).run = s.run := by
  rfl
@[simp] theorem State.retFar_fault (n : Word) :
    (s.retFar n).fault = s.fault := by
  rfl
@[simp] theorem State.retFar_mem (n : Word) :
    (s.retFar n).mem = s.mem := by
  rfl
@[simp] theorem State.retFar_io (n : Word) :
    (s.retFar n).io = s.io := by
  rfl
@[simp] theorem State.retFar_draws (n : Word) :
    (s.retFar n).draws = s.draws := by
  rfl

/-! ### State.callFarTo -/

@[simp] theorem State.callFarTo_ax (seg off ret : Word) :
    (s.callFarTo seg off ret).ax = s.ax := by
  rfl
@[simp] theorem State.callFarTo_cx (seg off ret : Word) :
    (s.callFarTo seg off ret).cx = s.cx := by
  rfl
@[simp] theorem State.callFarTo_dx (seg off ret : Word) :
    (s.callFarTo seg off ret).dx = s.dx := by
  rfl
@[simp] theorem State.callFarTo_bx (seg off ret : Word) :
    (s.callFarTo seg off ret).bx = s.bx := by
  rfl
@[simp] theorem State.callFarTo_bp (seg off ret : Word) :
    (s.callFarTo seg off ret).bp = s.bp := by
  rfl
@[simp] theorem State.callFarTo_si (seg off ret : Word) :
    (s.callFarTo seg off ret).si = s.si := by
  rfl
@[simp] theorem State.callFarTo_di (seg off ret : Word) :
    (s.callFarTo seg off ret).di = s.di := by
  rfl
@[simp] theorem State.callFarTo_es (seg off ret : Word) :
    (s.callFarTo seg off ret).es = s.es := by
  rfl
@[simp] theorem State.callFarTo_ss (seg off ret : Word) :
    (s.callFarTo seg off ret).ss = s.ss := by
  rfl
@[simp] theorem State.callFarTo_ds (seg off ret : Word) :
    (s.callFarTo seg off ret).ds = s.ds := by
  rfl
@[simp] theorem State.callFarTo_flags (seg off ret : Word) :
    (s.callFarTo seg off ret).flags = s.flags := by
  rfl
@[simp] theorem State.callFarTo_run (seg off ret : Word) :
    (s.callFarTo seg off ret).run = s.run := by
  rfl
@[simp] theorem State.callFarTo_fault (seg off ret : Word) :
    (s.callFarTo seg off ret).fault = s.fault := by
  rfl
@[simp] theorem State.callFarTo_io (seg off ret : Word) :
    (s.callFarTo seg off ret).io = s.io := by
  rfl
@[simp] theorem State.callFarTo_draws (seg off ret : Word) :
    (s.callFarTo seg off ret).draws = s.draws := by
  rfl

/-! ### State.branch -/

@[simp] theorem State.branch_ax (c : Ctx) (taken : Bool) (rel : Byte) :
    (s.branch c taken rel).ax = s.ax := by
  rfl
@[simp] theorem State.branch_cx (c : Ctx) (taken : Bool) (rel : Byte) :
    (s.branch c taken rel).cx = s.cx := by
  rfl
@[simp] theorem State.branch_dx (c : Ctx) (taken : Bool) (rel : Byte) :
    (s.branch c taken rel).dx = s.dx := by
  rfl
@[simp] theorem State.branch_bx (c : Ctx) (taken : Bool) (rel : Byte) :
    (s.branch c taken rel).bx = s.bx := by
  rfl
@[simp] theorem State.branch_sp (c : Ctx) (taken : Bool) (rel : Byte) :
    (s.branch c taken rel).sp = s.sp := by
  rfl
@[simp] theorem State.branch_bp (c : Ctx) (taken : Bool) (rel : Byte) :
    (s.branch c taken rel).bp = s.bp := by
  rfl
@[simp] theorem State.branch_si (c : Ctx) (taken : Bool) (rel : Byte) :
    (s.branch c taken rel).si = s.si := by
  rfl
@[simp] theorem State.branch_di (c : Ctx) (taken : Bool) (rel : Byte) :
    (s.branch c taken rel).di = s.di := by
  rfl
@[simp] theorem State.branch_es (c : Ctx) (taken : Bool) (rel : Byte) :
    (s.branch c taken rel).es = s.es := by
  rfl
@[simp] theorem State.branch_cs (c : Ctx) (taken : Bool) (rel : Byte) :
    (s.branch c taken rel).cs = s.cs := by
  rfl
@[simp] theorem State.branch_ss (c : Ctx) (taken : Bool) (rel : Byte) :
    (s.branch c taken rel).ss = s.ss := by
  rfl
@[simp] theorem State.branch_ds (c : Ctx) (taken : Bool) (rel : Byte) :
    (s.branch c taken rel).ds = s.ds := by
  rfl
@[simp] theorem State.branch_flags (c : Ctx) (taken : Bool) (rel : Byte) :
    (s.branch c taken rel).flags = s.flags := by
  rfl
@[simp] theorem State.branch_run (c : Ctx) (taken : Bool) (rel : Byte) :
    (s.branch c taken rel).run = s.run := by
  rfl
@[simp] theorem State.branch_fault (c : Ctx) (taken : Bool) (rel : Byte) :
    (s.branch c taken rel).fault = s.fault := by
  rfl
@[simp] theorem State.branch_mem (c : Ctx) (taken : Bool) (rel : Byte) :
    (s.branch c taken rel).mem = s.mem := by
  rfl
@[simp] theorem State.branch_io (c : Ctx) (taken : Bool) (rel : Byte) :
    (s.branch c taken rel).io = s.io := by
  rfl
@[simp] theorem State.branch_draws (c : Ctx) (taken : Bool) (rel : Byte) :
    (s.branch c taken rel).draws = s.draws := by
  rfl

/-! ### xchgAx -/

@[simp] theorem xchgAx_es (r : RegNum) (c : Ctx) :
    (xchgAx r c s).es = s.es := by
  simp [xchgAx]
@[simp] theorem xchgAx_cs (r : RegNum) (c : Ctx) :
    (xchgAx r c s).cs = s.cs := by
  simp [xchgAx]
@[simp] theorem xchgAx_ss (r : RegNum) (c : Ctx) :
    (xchgAx r c s).ss = s.ss := by
  simp [xchgAx]
@[simp] theorem xchgAx_ds (r : RegNum) (c : Ctx) :
    (xchgAx r c s).ds = s.ds := by
  simp [xchgAx]
@[simp] theorem xchgAx_flags (r : RegNum) (c : Ctx) :
    (xchgAx r c s).flags = s.flags := by
  simp [xchgAx]
@[simp] theorem xchgAx_run (r : RegNum) (c : Ctx) :
    (xchgAx r c s).run = s.run := by
  simp [xchgAx]
@[simp] theorem xchgAx_fault (r : RegNum) (c : Ctx) :
    (xchgAx r c s).fault = s.fault := by
  simp [xchgAx]
@[simp] theorem xchgAx_mem (r : RegNum) (c : Ctx) :
    (xchgAx r c s).mem = s.mem := by
  simp [xchgAx]
@[simp] theorem xchgAx_io (r : RegNum) (c : Ctx) :
    (xchgAx r c s).io = s.io := by
  simp [xchgAx]
@[simp] theorem xchgAx_draws (r : RegNum) (c : Ctx) :
    (xchgAx r c s).draws = s.draws := by
  simp [xchgAx]

/-! ### State.finishDivide -/

@[simp] theorem State.finishDivide_es (w : Width) (rm : RM) (c : Ctx) (res : Except FaultCause (BitVec w.bits × BitVec w.bits)) :
    (s.finishDivide w rm c res).es = s.es := by
  cases res <;> simp [State.finishDivide]
@[simp] theorem State.finishDivide_cs (w : Width) (rm : RM) (c : Ctx) (res : Except FaultCause (BitVec w.bits × BitVec w.bits)) :
    (s.finishDivide w rm c res).cs = s.cs := by
  cases res <;> simp [State.finishDivide]
@[simp] theorem State.finishDivide_ss (w : Width) (rm : RM) (c : Ctx) (res : Except FaultCause (BitVec w.bits × BitVec w.bits)) :
    (s.finishDivide w rm c res).ss = s.ss := by
  cases res <;> simp [State.finishDivide]
@[simp] theorem State.finishDivide_ds (w : Width) (rm : RM) (c : Ctx) (res : Except FaultCause (BitVec w.bits × BitVec w.bits)) :
    (s.finishDivide w rm c res).ds = s.ds := by
  cases res <;> simp [State.finishDivide]
@[simp] theorem State.finishDivide_mem (w : Width) (rm : RM) (c : Ctx) (res : Except FaultCause (BitVec w.bits × BitVec w.bits)) :
    (s.finishDivide w rm c res).mem = s.mem := by
  cases res <;> simp [State.finishDivide]
@[simp] theorem State.finishDivide_io (w : Width) (rm : RM) (c : Ctx) (res : Except FaultCause (BitVec w.bits × BitVec w.bits)) :
    (s.finishDivide w rm c res).io = s.io := by
  cases res <;> simp [State.finishDivide]
@[simp] theorem State.finishDivide_cx (w : Width) (rm : RM) (c : Ctx) (res : Except FaultCause (BitVec w.bits × BitVec w.bits)) :
    (s.finishDivide w rm c res).cx = s.cx := by
  cases res <;> simp [State.finishDivide]
@[simp] theorem State.finishDivide_bx (w : Width) (rm : RM) (c : Ctx) (res : Except FaultCause (BitVec w.bits × BitVec w.bits)) :
    (s.finishDivide w rm c res).bx = s.bx := by
  cases res <;> simp [State.finishDivide]
@[simp] theorem State.finishDivide_sp (w : Width) (rm : RM) (c : Ctx) (res : Except FaultCause (BitVec w.bits × BitVec w.bits)) :
    (s.finishDivide w rm c res).sp = s.sp := by
  cases res <;> simp [State.finishDivide]
@[simp] theorem State.finishDivide_bp (w : Width) (rm : RM) (c : Ctx) (res : Except FaultCause (BitVec w.bits × BitVec w.bits)) :
    (s.finishDivide w rm c res).bp = s.bp := by
  cases res <;> simp [State.finishDivide]
@[simp] theorem State.finishDivide_si (w : Width) (rm : RM) (c : Ctx) (res : Except FaultCause (BitVec w.bits × BitVec w.bits)) :
    (s.finishDivide w rm c res).si = s.si := by
  cases res <;> simp [State.finishDivide]
@[simp] theorem State.finishDivide_di (w : Width) (rm : RM) (c : Ctx) (res : Except FaultCause (BitVec w.bits × BitVec w.bits)) :
    (s.finishDivide w rm c res).di = s.di := by
  cases res <;> simp [State.finishDivide]

/-! ### Two-operand forms and shifts on a ModRM operand -/

@[simp] theorem aluRmReg_es (op : AluOp) (d : Dir) (w : Width) (reg : RegNum) (rm : RM) (c : Ctx) :
    (aluRmReg op d w reg rm c s).es = s.es := by
  cases d <;> simp [aluRmReg]
@[simp] theorem aluRmReg_cs (op : AluOp) (d : Dir) (w : Width) (reg : RegNum) (rm : RM) (c : Ctx) :
    (aluRmReg op d w reg rm c s).cs = s.cs := by
  cases d <;> simp [aluRmReg]
@[simp] theorem aluRmReg_ss (op : AluOp) (d : Dir) (w : Width) (reg : RegNum) (rm : RM) (c : Ctx) :
    (aluRmReg op d w reg rm c s).ss = s.ss := by
  cases d <;> simp [aluRmReg]
@[simp] theorem aluRmReg_ds (op : AluOp) (d : Dir) (w : Width) (reg : RegNum) (rm : RM) (c : Ctx) :
    (aluRmReg op d w reg rm c s).ds = s.ds := by
  cases d <;> simp [aluRmReg]
@[simp] theorem aluRmReg_run (op : AluOp) (d : Dir) (w : Width) (reg : RegNum) (rm : RM) (c : Ctx) :
    (aluRmReg op d w reg rm c s).run = s.run := by
  cases d <;> simp [aluRmReg]
@[simp] theorem aluRmReg_fault (op : AluOp) (d : Dir) (w : Width) (reg : RegNum) (rm : RM) (c : Ctx) :
    (aluRmReg op d w reg rm c s).fault = s.fault := by
  cases d <;> simp [aluRmReg]
@[simp] theorem aluRmReg_io (op : AluOp) (d : Dir) (w : Width) (reg : RegNum) (rm : RM) (c : Ctx) :
    (aluRmReg op d w reg rm c s).io = s.io := by
  cases d <;> simp [aluRmReg]
@[simp] theorem aluRmReg_ip (op : AluOp) (d : Dir) (w : Width) (reg : RegNum) (rm : RM) (c : Ctx) :
    (aluRmReg op d w reg rm c s).ip = c.next (2 + rm.dispLen) s := by
  cases d <;> simp [aluRmReg, Ctx.next, State.advance]
@[simp] theorem aluAl_es (op : AluOp) (imm : Byte) (c : Ctx) :
    (aluAl op imm c s).es = s.es := by
  simp [aluAl]
@[simp] theorem aluAl_cs (op : AluOp) (imm : Byte) (c : Ctx) :
    (aluAl op imm c s).cs = s.cs := by
  simp [aluAl]
@[simp] theorem aluAl_ss (op : AluOp) (imm : Byte) (c : Ctx) :
    (aluAl op imm c s).ss = s.ss := by
  simp [aluAl]
@[simp] theorem aluAl_ds (op : AluOp) (imm : Byte) (c : Ctx) :
    (aluAl op imm c s).ds = s.ds := by
  simp [aluAl]
@[simp] theorem aluAl_run (op : AluOp) (imm : Byte) (c : Ctx) :
    (aluAl op imm c s).run = s.run := by
  simp [aluAl]
@[simp] theorem aluAl_fault (op : AluOp) (imm : Byte) (c : Ctx) :
    (aluAl op imm c s).fault = s.fault := by
  simp [aluAl]
@[simp] theorem aluAl_io (op : AluOp) (imm : Byte) (c : Ctx) :
    (aluAl op imm c s).io = s.io := by
  simp [aluAl]
@[simp] theorem aluAl_ip (op : AluOp) (imm : Byte) (c : Ctx) :
    (aluAl op imm c s).ip = c.next (2) s := by
  simp [aluAl, Ctx.next, State.advance]
@[simp] theorem aluAx_es (op : AluOp) (imm : Word) (c : Ctx) :
    (aluAx op imm c s).es = s.es := by
  simp [aluAx]
@[simp] theorem aluAx_cs (op : AluOp) (imm : Word) (c : Ctx) :
    (aluAx op imm c s).cs = s.cs := by
  simp [aluAx]
@[simp] theorem aluAx_ss (op : AluOp) (imm : Word) (c : Ctx) :
    (aluAx op imm c s).ss = s.ss := by
  simp [aluAx]
@[simp] theorem aluAx_ds (op : AluOp) (imm : Word) (c : Ctx) :
    (aluAx op imm c s).ds = s.ds := by
  simp [aluAx]
@[simp] theorem aluAx_run (op : AluOp) (imm : Word) (c : Ctx) :
    (aluAx op imm c s).run = s.run := by
  simp [aluAx]
@[simp] theorem aluAx_fault (op : AluOp) (imm : Word) (c : Ctx) :
    (aluAx op imm c s).fault = s.fault := by
  simp [aluAx]
@[simp] theorem aluAx_io (op : AluOp) (imm : Word) (c : Ctx) :
    (aluAx op imm c s).io = s.io := by
  simp [aluAx]
@[simp] theorem aluAx_ip (op : AluOp) (imm : Word) (c : Ctx) :
    (aluAx op imm c s).ip = c.next (3) s := by
  simp [aluAx, Ctx.next, State.advance]
@[simp] theorem aluRm8Imm8_es (op : AluOp) (rm : RM) (imm : Byte) (c : Ctx) :
    (aluRm8Imm8 op rm imm c s).es = s.es := by
  simp [aluRm8Imm8]
@[simp] theorem aluRm8Imm8_cs (op : AluOp) (rm : RM) (imm : Byte) (c : Ctx) :
    (aluRm8Imm8 op rm imm c s).cs = s.cs := by
  simp [aluRm8Imm8]
@[simp] theorem aluRm8Imm8_ss (op : AluOp) (rm : RM) (imm : Byte) (c : Ctx) :
    (aluRm8Imm8 op rm imm c s).ss = s.ss := by
  simp [aluRm8Imm8]
@[simp] theorem aluRm8Imm8_ds (op : AluOp) (rm : RM) (imm : Byte) (c : Ctx) :
    (aluRm8Imm8 op rm imm c s).ds = s.ds := by
  simp [aluRm8Imm8]
@[simp] theorem aluRm8Imm8_run (op : AluOp) (rm : RM) (imm : Byte) (c : Ctx) :
    (aluRm8Imm8 op rm imm c s).run = s.run := by
  simp [aluRm8Imm8]
@[simp] theorem aluRm8Imm8_fault (op : AluOp) (rm : RM) (imm : Byte) (c : Ctx) :
    (aluRm8Imm8 op rm imm c s).fault = s.fault := by
  simp [aluRm8Imm8]
@[simp] theorem aluRm8Imm8_io (op : AluOp) (rm : RM) (imm : Byte) (c : Ctx) :
    (aluRm8Imm8 op rm imm c s).io = s.io := by
  simp [aluRm8Imm8]
@[simp] theorem aluRm8Imm8_ip (op : AluOp) (rm : RM) (imm : Byte) (c : Ctx) :
    (aluRm8Imm8 op rm imm c s).ip = c.next (3 + rm.dispLen) s := by
  simp [aluRm8Imm8, Ctx.next, State.advance]
@[simp] theorem aluRm16Imm16_es (op : AluOp) (rm : RM) (imm : Word) (c : Ctx) :
    (aluRm16Imm16 op rm imm c s).es = s.es := by
  simp [aluRm16Imm16]
@[simp] theorem aluRm16Imm16_cs (op : AluOp) (rm : RM) (imm : Word) (c : Ctx) :
    (aluRm16Imm16 op rm imm c s).cs = s.cs := by
  simp [aluRm16Imm16]
@[simp] theorem aluRm16Imm16_ss (op : AluOp) (rm : RM) (imm : Word) (c : Ctx) :
    (aluRm16Imm16 op rm imm c s).ss = s.ss := by
  simp [aluRm16Imm16]
@[simp] theorem aluRm16Imm16_ds (op : AluOp) (rm : RM) (imm : Word) (c : Ctx) :
    (aluRm16Imm16 op rm imm c s).ds = s.ds := by
  simp [aluRm16Imm16]
@[simp] theorem aluRm16Imm16_run (op : AluOp) (rm : RM) (imm : Word) (c : Ctx) :
    (aluRm16Imm16 op rm imm c s).run = s.run := by
  simp [aluRm16Imm16]
@[simp] theorem aluRm16Imm16_fault (op : AluOp) (rm : RM) (imm : Word) (c : Ctx) :
    (aluRm16Imm16 op rm imm c s).fault = s.fault := by
  simp [aluRm16Imm16]
@[simp] theorem aluRm16Imm16_io (op : AluOp) (rm : RM) (imm : Word) (c : Ctx) :
    (aluRm16Imm16 op rm imm c s).io = s.io := by
  simp [aluRm16Imm16]
@[simp] theorem aluRm16Imm16_ip (op : AluOp) (rm : RM) (imm : Word) (c : Ctx) :
    (aluRm16Imm16 op rm imm c s).ip = c.next (4 + rm.dispLen) s := by
  simp [aluRm16Imm16, Ctx.next, State.advance]
@[simp] theorem aluRm16Imm8_es (op : AluOp) (rm : RM) (imm : Byte) (c : Ctx) :
    (aluRm16Imm8 op rm imm c s).es = s.es := by
  simp [aluRm16Imm8]
@[simp] theorem aluRm16Imm8_cs (op : AluOp) (rm : RM) (imm : Byte) (c : Ctx) :
    (aluRm16Imm8 op rm imm c s).cs = s.cs := by
  simp [aluRm16Imm8]
@[simp] theorem aluRm16Imm8_ss (op : AluOp) (rm : RM) (imm : Byte) (c : Ctx) :
    (aluRm16Imm8 op rm imm c s).ss = s.ss := by
  simp [aluRm16Imm8]
@[simp] theorem aluRm16Imm8_ds (op : AluOp) (rm : RM) (imm : Byte) (c : Ctx) :
    (aluRm16Imm8 op rm imm c s).ds = s.ds := by
  simp [aluRm16Imm8]
@[simp] theorem aluRm16Imm8_run (op : AluOp) (rm : RM) (imm : Byte) (c : Ctx) :
    (aluRm16Imm8 op rm imm c s).run = s.run := by
  simp [aluRm16Imm8]
@[simp] theorem aluRm16Imm8_fault (op : AluOp) (rm : RM) (imm : Byte) (c : Ctx) :
    (aluRm16Imm8 op rm imm c s).fault = s.fault := by
  simp [aluRm16Imm8]
@[simp] theorem aluRm16Imm8_io (op : AluOp) (rm : RM) (imm : Byte) (c : Ctx) :
    (aluRm16Imm8 op rm imm c s).io = s.io := by
  simp [aluRm16Imm8]
@[simp] theorem aluRm16Imm8_ip (op : AluOp) (rm : RM) (imm : Byte) (c : Ctx) :
    (aluRm16Imm8 op rm imm c s).ip = c.next (3 + rm.dispLen) s := by
  simp [aluRm16Imm8, Ctx.next, State.advance]
@[simp] theorem shiftRm_es (op : ShiftOp) (v : Count) (w : Width) (rm : RM) (c : Ctx) :
    (shiftRm op v w rm c s).es = s.es := by
  simp [shiftRm]
@[simp] theorem shiftRm_cs (op : ShiftOp) (v : Count) (w : Width) (rm : RM) (c : Ctx) :
    (shiftRm op v w rm c s).cs = s.cs := by
  simp [shiftRm]
@[simp] theorem shiftRm_ss (op : ShiftOp) (v : Count) (w : Width) (rm : RM) (c : Ctx) :
    (shiftRm op v w rm c s).ss = s.ss := by
  simp [shiftRm]
@[simp] theorem shiftRm_ds (op : ShiftOp) (v : Count) (w : Width) (rm : RM) (c : Ctx) :
    (shiftRm op v w rm c s).ds = s.ds := by
  simp [shiftRm]
@[simp] theorem shiftRm_run (op : ShiftOp) (v : Count) (w : Width) (rm : RM) (c : Ctx) :
    (shiftRm op v w rm c s).run = s.run := by
  simp [shiftRm]
@[simp] theorem shiftRm_fault (op : ShiftOp) (v : Count) (w : Width) (rm : RM) (c : Ctx) :
    (shiftRm op v w rm c s).fault = s.fault := by
  simp [shiftRm]
@[simp] theorem shiftRm_io (op : ShiftOp) (v : Count) (w : Width) (rm : RM) (c : Ctx) :
    (shiftRm op v w rm c s).io = s.io := by
  simp [shiftRm]
@[simp] theorem shiftRm_ip (op : ShiftOp) (v : Count) (w : Width) (rm : RM) (c : Ctx) :
    (shiftRm op v w rm c s).ip = c.next (2 + rm.dispLen) s := by
  simp [shiftRm, Ctx.next, State.advance]

/-! ### FLAGS bits -/

/-- A two-operand operator writes the six status flags only (R251, R300). -/
theorem State.alu_flag_other (op : AluOp) (w : Width) (l : Loc) (b : BitVec w.bits) (k : Nat)
    (h : k ∉ [11, 7, 6, 4, 2, 0]) : (s.alu op w l b).flags.getLsbD k = s.flags.getLsbD k := by
  simp only [List.mem_cons, List.not_mem_nil, or_false, not_or] at h
  cases op <;> simp [-BitVec.getLsbD_eq_getElem, State.alu, AluOp.setFlags, AluOp.writes, getLsbD_addFlags,
    getLsbD_subFlags, getLsbD_logicFlags, getLsbD_undefFlags, Flag.bit, h]

/-- INC keeps CF (R257). -/
theorem State.inc_flag_other (w : Width) (l : Loc) (k : Nat) (h : k ∉ [11, 7, 6, 4, 2]) :
    (s.inc w l).flags.getLsbD k = s.flags.getLsbD k := by
  simp only [List.mem_cons, List.not_mem_nil, or_false, not_or] at h
  by_cases h0 : k = 0
  · subst h0; rw [State.inc, State.writeLoc_flags, State.setFlags_flags, getLsbD_setFlag]; rfl
  · simp [-BitVec.getLsbD_eq_getElem, State.inc, getLsbD_setFlag, getLsbD_addFlags, Flag.bit, h, h0]

/-- DEC keeps CF (R258). -/
theorem State.dec_flag_other (w : Width) (l : Loc) (k : Nat) (h : k ∉ [11, 7, 6, 4, 2]) :
    (s.dec w l).flags.getLsbD k = s.flags.getLsbD k := by
  simp only [List.mem_cons, List.not_mem_nil, or_false, not_or] at h
  by_cases h0 : k = 0
  · subst h0; rw [State.dec, State.writeLoc_flags, State.setFlags_flags, getLsbD_setFlag]; rfl
  · simp [-BitVec.getLsbD_eq_getElem, State.dec, getLsbD_setFlag, getLsbD_subFlags, Flag.bit, h, h0]

theorem State.neg_flag_other (w : Width) (l : Loc) (k : Nat) (h : k ∉ [11, 7, 6, 4, 2, 0]) :
    (s.neg w l).flags.getLsbD k = s.flags.getLsbD k := by
  simp only [List.mem_cons, List.not_mem_nil, or_false, not_or] at h
  simp [-BitVec.getLsbD_eq_getElem, State.neg, getLsbD_subFlags, h]

/-- A rotate writes CF and OF, a shift the six status flags, and a count of 0 nothing (R33, R306). -/
theorem State.shift_flag_other (op : ShiftOp) (w : Width) (l : Loc) (c k : Nat)
    (h : c = 0 ∨ k ∉ (if op.isShift then [11, 7, 6, 4, 2, 0] else [11, 0])) :
    (s.shift op w l c).flags.getLsbD k = s.flags.getLsbD k := by
  unfold State.shift
  split
  · rfl
  · next hc =>
    have h := h.resolve_left hc
    have hk : ∀ (orig : BitVec w.bits) x, (op.flags c orig x s.flags).getLsbD k = s.flags.getLsbD k := by
      intro orig x
      rw [getLsbD_shiftFlags]
      cases op <;> simp [ShiftOp.isShift] at h ⊢ <;> simp [h]
    have hu : k ∉ (op.undefined c).map Flag.bit := by
      by_cases hc1 : c = 1 <;> cases op <;> simp [ShiftOp.isShift] at h <;>
        simp [ShiftOp.isShift, ShiftOp.undefined, Flag.bit, hc1] <;> omega
    dsimp only
    split
    · rw [State.writeLoc_flags, State.setFlags_flags, hk]
    · rw [State.undef_flags, getLsbD_undefFlags, if_neg hu, State.writeLoc_flags, State.setFlags_flags, hk]

/-- Only the comparing string instructions write FLAGS (R33). -/
theorem State.stringOnce_flag_other (op : StringOp) (w : Width) (c : Ctx) (k : Nat)
    (h : op.compares = true → k ∉ [11, 7, 6, 4, 2, 0]) :
    (s.stringOnce op w c).flags.getLsbD k = s.flags.getLsbD k := by
  cases op <;> simp [StringOp.compares] at h <;>
    simp [-BitVec.getLsbD_eq_getElem, State.stringOnce, getLsbD_subFlags, h]

theorem State.stringLoop_flag_other (op : StringOp) (w : Width) (c : Ctx) (r : Repeat) (n k : Nat)
    (h : op.compares = true → k ∉ [11, 7, 6, 4, 2, 0]) :
    (State.stringLoop op w c r n s).flags.getLsbD k = s.flags.getLsbD k := by
  induction n generalizing s with
  | zero => rfl
  | succ n ih =>
    simp only [State.stringLoop]
    split
    · rw [State.decCx_flags, State.stringOnce_flag_other s op w c k h]
    · rw [ih, State.decCx_flags, State.stringOnce_flag_other s op w c k h]

theorem stringExec_flag_other (op : StringOp) (w : Width) (c : Ctx) (k : Nat)
    (h : op.compares = true → k ∉ [11, 7, 6, 4, 2, 0]) :
    (stringExec op w c s).flags.getLsbD k = s.flags.getLsbD k := by
  simp only [stringExec]
  split
  · rw [State.advance_flags, State.stringOnce_flag_other s op w c k h]
  · rw [State.advance_flags, State.stringLoop_flag_other s op w c _ _ k h]

end Sys2Proof.Machine
end

