-- ==== Sys2Proof/Laws/PerInstr.lean ====
section
/-! SUPPORT. Statements made per instruction: the family `Length` (R121). -/

namespace Sys2Proof.Laws

/-- A ModRM operand is encoded in one byte and its displacement bytes (R106, R112). -/
@[simp] theorem length_encodeModRM (reg : RegNum) (rm : RM) : (encodeModRM reg rm).length = rm.dispLen + 1 := by
  rcases rm with _ | _ | ⟨_, _ | _ | _⟩ <;> rfl

@[simp] theorem length_wordBytes (v : Word) : (wordBytes v).length = 2 := rfl

namespace Length

/-- The encoder lays out exactly the number of bytes that `Instr.len` says the instruction has. -/
def Statement (i : Instr) : Prop := (encode i).length = i.len

/-- Every instruction: the seven prefix rows hold an instruction, hence the induction. -/
theorem all (i : Instr) : Statement i := by
  unfold Statement
  induction i with
  | segEs _ ih => exact congrArg (· + 1) ih
  | segCs _ ih => exact congrArg (· + 1) ih
  | segSs _ ih => exact congrArg (· + 1) ih
  | segDs _ ih => exact congrArg (· + 1) ih
  | lock _ ih => exact congrArg (· + 1) ih
  | repne _ ih => exact congrArg (· + 1) ih
  | rep _ ih => exact congrArg (· + 1) ih
  | _ => simp [encode, Instr.len] <;> omega

theorem addRmReg (d : Dir) (w : Width) (reg : RegNum) (rm : RM) : Statement (.addRmReg d w reg rm) := all _
theorem addAl (imm : Byte) : Statement (.addAl imm) := all _
theorem addAx (imm : Word) : Statement (.addAx imm) := all _
theorem addRm8Imm8 (rm : RM) (imm : Byte) : Statement (.addRm8Imm8 rm imm) := all _
theorem addRm16Imm16 (rm : RM) (imm : Word) : Statement (.addRm16Imm16 rm imm) := all _
theorem addRm8Imm8Alt (rm : RM) (imm : Byte) : Statement (.addRm8Imm8Alt rm imm) := all _
theorem addRm16Imm8 (rm : RM) (imm : Byte) : Statement (.addRm16Imm8 rm imm) := all _
theorem orRmReg (d : Dir) (w : Width) (reg : RegNum) (rm : RM) : Statement (.orRmReg d w reg rm) := all _
theorem orAl (imm : Byte) : Statement (.orAl imm) := all _
theorem orAx (imm : Word) : Statement (.orAx imm) := all _
theorem orRm8Imm8 (rm : RM) (imm : Byte) : Statement (.orRm8Imm8 rm imm) := all _
theorem orRm16Imm16 (rm : RM) (imm : Word) : Statement (.orRm16Imm16 rm imm) := all _
theorem orRm8Imm8Alt (rm : RM) (imm : Byte) : Statement (.orRm8Imm8Alt rm imm) := all _
theorem orRm16Imm8 (rm : RM) (imm : Byte) : Statement (.orRm16Imm8 rm imm) := all _
theorem adcRmReg (d : Dir) (w : Width) (reg : RegNum) (rm : RM) : Statement (.adcRmReg d w reg rm) := all _
theorem adcAl (imm : Byte) : Statement (.adcAl imm) := all _
theorem adcAx (imm : Word) : Statement (.adcAx imm) := all _
theorem adcRm8Imm8 (rm : RM) (imm : Byte) : Statement (.adcRm8Imm8 rm imm) := all _
theorem adcRm16Imm16 (rm : RM) (imm : Word) : Statement (.adcRm16Imm16 rm imm) := all _
theorem adcRm8Imm8Alt (rm : RM) (imm : Byte) : Statement (.adcRm8Imm8Alt rm imm) := all _
theorem adcRm16Imm8 (rm : RM) (imm : Byte) : Statement (.adcRm16Imm8 rm imm) := all _
theorem sbbRmReg (d : Dir) (w : Width) (reg : RegNum) (rm : RM) : Statement (.sbbRmReg d w reg rm) := all _
theorem sbbAl (imm : Byte) : Statement (.sbbAl imm) := all _
theorem sbbAx (imm : Word) : Statement (.sbbAx imm) := all _
theorem sbbRm8Imm8 (rm : RM) (imm : Byte) : Statement (.sbbRm8Imm8 rm imm) := all _
theorem sbbRm16Imm16 (rm : RM) (imm : Word) : Statement (.sbbRm16Imm16 rm imm) := all _
theorem sbbRm8Imm8Alt (rm : RM) (imm : Byte) : Statement (.sbbRm8Imm8Alt rm imm) := all _
theorem sbbRm16Imm8 (rm : RM) (imm : Byte) : Statement (.sbbRm16Imm8 rm imm) := all _
theorem andRmReg (d : Dir) (w : Width) (reg : RegNum) (rm : RM) : Statement (.andRmReg d w reg rm) := all _
theorem andAl (imm : Byte) : Statement (.andAl imm) := all _
theorem andAx (imm : Word) : Statement (.andAx imm) := all _
theorem andRm8Imm8 (rm : RM) (imm : Byte) : Statement (.andRm8Imm8 rm imm) := all _
theorem andRm16Imm16 (rm : RM) (imm : Word) : Statement (.andRm16Imm16 rm imm) := all _
theorem andRm8Imm8Alt (rm : RM) (imm : Byte) : Statement (.andRm8Imm8Alt rm imm) := all _
theorem andRm16Imm8 (rm : RM) (imm : Byte) : Statement (.andRm16Imm8 rm imm) := all _
theorem subRmReg (d : Dir) (w : Width) (reg : RegNum) (rm : RM) : Statement (.subRmReg d w reg rm) := all _
theorem subAl (imm : Byte) : Statement (.subAl imm) := all _
theorem subAx (imm : Word) : Statement (.subAx imm) := all _
theorem subRm8Imm8 (rm : RM) (imm : Byte) : Statement (.subRm8Imm8 rm imm) := all _
theorem subRm16Imm16 (rm : RM) (imm : Word) : Statement (.subRm16Imm16 rm imm) := all _
theorem subRm8Imm8Alt (rm : RM) (imm : Byte) : Statement (.subRm8Imm8Alt rm imm) := all _
theorem subRm16Imm8 (rm : RM) (imm : Byte) : Statement (.subRm16Imm8 rm imm) := all _
theorem xorRmReg (d : Dir) (w : Width) (reg : RegNum) (rm : RM) : Statement (.xorRmReg d w reg rm) := all _
theorem xorAl (imm : Byte) : Statement (.xorAl imm) := all _
theorem xorAx (imm : Word) : Statement (.xorAx imm) := all _
theorem xorRm8Imm8 (rm : RM) (imm : Byte) : Statement (.xorRm8Imm8 rm imm) := all _
theorem xorRm16Imm16 (rm : RM) (imm : Word) : Statement (.xorRm16Imm16 rm imm) := all _
theorem xorRm8Imm8Alt (rm : RM) (imm : Byte) : Statement (.xorRm8Imm8Alt rm imm) := all _
theorem xorRm16Imm8 (rm : RM) (imm : Byte) : Statement (.xorRm16Imm8 rm imm) := all _
theorem cmpRmReg (d : Dir) (w : Width) (reg : RegNum) (rm : RM) : Statement (.cmpRmReg d w reg rm) := all _
theorem cmpAl (imm : Byte) : Statement (.cmpAl imm) := all _
theorem cmpAx (imm : Word) : Statement (.cmpAx imm) := all _
theorem cmpRm8Imm8 (rm : RM) (imm : Byte) : Statement (.cmpRm8Imm8 rm imm) := all _
theorem cmpRm16Imm16 (rm : RM) (imm : Word) : Statement (.cmpRm16Imm16 rm imm) := all _
theorem cmpRm8Imm8Alt (rm : RM) (imm : Byte) : Statement (.cmpRm8Imm8Alt rm imm) := all _
theorem cmpRm16Imm8 (rm : RM) (imm : Byte) : Statement (.cmpRm16Imm8 rm imm) := all _
theorem pushEs : Statement .pushEs := all _
theorem pushCs : Statement .pushCs := all _
theorem pushSs : Statement .pushSs := all _
theorem pushDs : Statement .pushDs := all _
theorem popEs : Statement .popEs := all _
theorem popSs : Statement .popSs := all _
theorem popDs : Statement .popDs := all _
theorem segEs (rest : Instr) : Statement (.segEs rest) := all _
theorem segCs (rest : Instr) : Statement (.segCs rest) := all _
theorem segSs (rest : Instr) : Statement (.segSs rest) := all _
theorem segDs (rest : Instr) : Statement (.segDs rest) := all _
theorem daa : Statement .daa := all _
theorem das : Statement .das := all _
theorem aaa : Statement .aaa := all _
theorem aas : Statement .aas := all _
theorem incReg (r : RegNum) : Statement (.incReg r) := all _
theorem decReg (r : RegNum) : Statement (.decReg r) := all _
theorem pushReg (r : RegNum) : Statement (.pushReg r) := all _
theorem popReg (r : RegNum) : Statement (.popReg r) := all _
theorem jo (rel : Byte) : Statement (.jo rel) := all _
theorem jno (rel : Byte) : Statement (.jno rel) := all _
theorem jb (rel : Byte) : Statement (.jb rel) := all _
theorem jnb (rel : Byte) : Statement (.jnb rel) := all _
theorem jz (rel : Byte) : Statement (.jz rel) := all _
theorem jnz (rel : Byte) : Statement (.jnz rel) := all _
theorem jbe (rel : Byte) : Statement (.jbe rel) := all _
theorem jnbe (rel : Byte) : Statement (.jnbe rel) := all _
theorem js (rel : Byte) : Statement (.js rel) := all _
theorem jns (rel : Byte) : Statement (.jns rel) := all _
theorem jp (rel : Byte) : Statement (.jp rel) := all _
theorem jnp (rel : Byte) : Statement (.jnp rel) := all _
theorem jl (rel : Byte) : Statement (.jl rel) := all _
theorem jnl (rel : Byte) : Statement (.jnl rel) := all _
theorem jle (rel : Byte) : Statement (.jle rel) := all _
theorem jnle (rel : Byte) : Statement (.jnle rel) := all _
theorem testRmReg (w : Width) (reg : RegNum) (rm : RM) : Statement (.testRmReg w reg rm) := all _
theorem xchgRmReg (w : Width) (reg : RegNum) (rm : RM) : Statement (.xchgRmReg w reg rm) := all _
theorem movRmReg (d : Dir) (w : Width) (reg : RegNum) (rm : RM) : Statement (.movRmReg d w reg rm) := all _
theorem movRmSreg (sr : SReg) (rm : RM) : Statement (.movRmSreg sr rm) := all _
theorem lea (reg : RegNum) (rm : RM) : Statement (.lea reg rm) := all _
theorem movSregRm (sr : SReg) (rm : RM) : Statement (.movSregRm sr rm) := all _
theorem popRm (rm : RM) : Statement (.popRm rm) := all _
theorem nop : Statement .nop := all _
theorem xchgAxCx : Statement .xchgAxCx := all _
theorem xchgAxDx : Statement .xchgAxDx := all _
theorem xchgAxBx : Statement .xchgAxBx := all _
theorem xchgAxSp : Statement .xchgAxSp := all _
theorem xchgAxBp : Statement .xchgAxBp := all _
theorem xchgAxSi : Statement .xchgAxSi := all _
theorem xchgAxDi : Statement .xchgAxDi := all _
theorem cbw : Statement .cbw := all _
theorem cwd : Statement .cwd := all _
theorem callFar (off : Word) (seg : Word) : Statement (.callFar off seg) := all _
theorem wait : Statement .wait := all _
theorem pushf : Statement .pushf := all _
theorem popf : Statement .popf := all _
theorem sahf : Statement .sahf := all _
theorem lahf : Statement .lahf := all _
theorem movAccMoffs (w : Width) (off : Word) : Statement (.movAccMoffs w off) := all _
theorem movMoffsAcc (w : Width) (off : Word) : Statement (.movMoffsAcc w off) := all _
theorem movs (w : Width) : Statement (.movs w) := all _
theorem cmps (w : Width) : Statement (.cmps w) := all _
theorem testAl (imm : Byte) : Statement (.testAl imm) := all _
theorem testAx (imm : Word) : Statement (.testAx imm) := all _
theorem stos (w : Width) : Statement (.stos w) := all _
theorem lods (w : Width) : Statement (.lods w) := all _
theorem scas (w : Width) : Statement (.scas w) := all _
theorem movReg8Imm (r : RegNum) (imm : Byte) : Statement (.movReg8Imm r imm) := all _
theorem movReg16Imm (r : RegNum) (imm : Word) : Statement (.movReg16Imm r imm) := all _
theorem retImm (imm : Word) : Statement (.retImm imm) := all _
theorem ret : Statement .ret := all _
theorem les (reg : RegNum) (rm : RM) : Statement (.les reg rm) := all _
theorem lds (reg : RegNum) (rm : RM) : Statement (.lds reg rm) := all _
theorem movRm8Imm8 (rm : RM) (imm : Byte) : Statement (.movRm8Imm8 rm imm) := all _
theorem movRm16Imm16 (rm : RM) (imm : Word) : Statement (.movRm16Imm16 rm imm) := all _
theorem retfImm (imm : Word) : Statement (.retfImm imm) := all _
theorem retf : Statement .retf := all _
theorem int3 : Statement .int3 := all _
theorem intImm (imm : Byte) : Statement (.intImm imm) := all _
theorem into : Statement .into := all _
theorem iret : Statement .iret := all _
theorem rolRm (v : Count) (w : Width) (rm : RM) : Statement (.rolRm v w rm) := all _
theorem rorRm (v : Count) (w : Width) (rm : RM) : Statement (.rorRm v w rm) := all _
theorem rclRm (v : Count) (w : Width) (rm : RM) : Statement (.rclRm v w rm) := all _
theorem rcrRm (v : Count) (w : Width) (rm : RM) : Statement (.rcrRm v w rm) := all _
theorem shlRm (v : Count) (w : Width) (rm : RM) : Statement (.shlRm v w rm) := all _
theorem shrRm (v : Count) (w : Width) (rm : RM) : Statement (.shrRm v w rm) := all _
theorem sarRm (v : Count) (w : Width) (rm : RM) : Statement (.sarRm v w rm) := all _
theorem aam (imm : Byte) : Statement (.aam imm) := all _
theorem aad (imm : Byte) : Statement (.aad imm) := all _
theorem xlat : Statement .xlat := all _
theorem esc (hi : RegNum) (lo : RegNum) (rm : RM) : Statement (.esc hi lo rm) := all _
theorem loopnz (rel : Byte) : Statement (.loopnz rel) := all _
theorem loopz (rel : Byte) : Statement (.loopz rel) := all _
theorem loop (rel : Byte) : Statement (.loop rel) := all _
theorem jcxz (rel : Byte) : Statement (.jcxz rel) := all _
theorem inImm (w : Width) (port : Byte) : Statement (.inImm w port) := all _
theorem outImm (w : Width) (port : Byte) : Statement (.outImm w port) := all _
theorem callRel (rel : Word) : Statement (.callRel rel) := all _
theorem jmpRel (rel : Word) : Statement (.jmpRel rel) := all _
theorem jmpFar (off : Word) (seg : Word) : Statement (.jmpFar off seg) := all _
theorem jmpShort (rel : Byte) : Statement (.jmpShort rel) := all _
theorem inDx (w : Width) : Statement (.inDx w) := all _
theorem outDx (w : Width) : Statement (.outDx w) := all _
theorem lock (rest : Instr) : Statement (.lock rest) := all _
theorem repne (rest : Instr) : Statement (.repne rest) := all _
theorem rep (rest : Instr) : Statement (.rep rest) := all _
theorem hlt : Statement .hlt := all _
theorem cmc : Statement .cmc := all _
theorem testRm8Imm8 (rm : RM) (imm : Byte) : Statement (.testRm8Imm8 rm imm) := all _
theorem testRm16Imm16 (rm : RM) (imm : Word) : Statement (.testRm16Imm16 rm imm) := all _
theorem notRm (w : Width) (rm : RM) : Statement (.notRm w rm) := all _
theorem negRm (w : Width) (rm : RM) : Statement (.negRm w rm) := all _
theorem mulRm (w : Width) (rm : RM) : Statement (.mulRm w rm) := all _
theorem imulRm (w : Width) (rm : RM) : Statement (.imulRm w rm) := all _
theorem divRm (w : Width) (rm : RM) : Statement (.divRm w rm) := all _
theorem idivRm (w : Width) (rm : RM) : Statement (.idivRm w rm) := all _
theorem clc : Statement .clc := all _
theorem stc : Statement .stc := all _
theorem cli : Statement .cli := all _
theorem sti : Statement .sti := all _
theorem cld : Statement .cld := all _
theorem std : Statement .std := all _
theorem incRm (w : Width) (rm : RM) : Statement (.incRm w rm) := all _
theorem decRm (w : Width) (rm : RM) : Statement (.decRm w rm) := all _
theorem callRm (rm : RM) : Statement (.callRm rm) := all _
theorem callFarRm (rm : RM) : Statement (.callFarRm rm) := all _
theorem jmpRm (rm : RM) : Statement (.jmpRm rm) := all _
theorem jmpFarRm (rm : RM) : Statement (.jmpFarRm rm) := all _
theorem pushRm (rm : RM) : Statement (.pushRm rm) := all _

end Length

end Sys2Proof.Laws
end

