-- ==== Sys2Proof/Laws/Shift.lean ====
section
/-! SUPPORT. The closed forms of the shift and rotate loops of R307 to R313: `c` one-bit steps at once. -/

namespace Sys2Proof.Machine

theorem getLsbD_topBit {n : Nat} (b : Bool) (k : Nat) :
    (topBit n b).getLsbD k = (b && decide (n - 1 < n) && decide (k = n - 1)) := by
  cases b
  · simp [topBit]
  · simp [topBit, BitVec.getLsbD_twoPow, eq_comm]

theorem getLsbD_lowBit {n : Nat} (b : Bool) (k : Nat) :
    (lowBit n b).getLsbD k = (b && decide (0 < n) && decide (k = 0)) := by
  cases b
  · simp [lowBit]
  · simp [lowBit, BitVec.getLsbD_twoPow, eq_comm]

theorem rotateLeft_succ {n : Nat} (x : BitVec n) (c : Nat) : (x.rotateLeft 1).rotateLeft c = x.rotateLeft (c + 1) := by
  apply BitVec.eq_of_getLsbD_eq
  intro i hi
  have hc := Nat.mod_lt c (show 0 < n by omega)
  have hs : (c + 1) % n = if c % n + 1 = n then 0 else c % n + 1 := by
    rw [Nat.add_mod]
    rcases Nat.lt_or_ge 1 n with h1 | h1
    · rw [Nat.mod_eq_of_lt h1]
      split
      · next h => rw [h, Nat.mod_self]
      · exact Nat.mod_eq_of_lt (by omega)
    · have : n = 1 := by omega
      subst this
      simp [Nat.mod_one]
  have h1 : 1 % n = if n = 1 then 0 else 1 := by
    split
    · next h => subst h; rfl
    · exact Nat.mod_eq_of_lt (by omega)
  simp only [BitVec.getLsbD_rotateLeft, hs, h1]
  generalize c % n = m at *
  rcases Nat.lt_or_ge 1 n with hn | hn
  · rw [if_neg (by omega)]
    by_cases hm : m + 1 = n
    · rw [if_pos hm]
      by_cases hi2 : i < m
      · have e1 : n - m + i = i + 1 := by omega
        have e2 : ¬ i + 1 < 1 := by omega
        have e3 : i + 1 < n := by omega
        simp [hi2, e1, e2, e3, hi]
      · have e1 : i - m = 0 := by omega
        have e2 : n - 1 = i := by omega
        simp [hi2, hi, e1, e2]
    · rw [if_neg hm]
      by_cases hi2 : i < m
      · have e1 : ¬ n - m + i < 1 := by omega
        have e2 : n - m + i < n := by omega
        have e3 : i < m + 1 := by omega
        have e4 : n - m + i - 1 = n - (m + 1) + i := by omega
        simp [hi2, e1, e2, e3, e4]
      · by_cases hi3 : i = m
        · subst hi3
          have e5 : n - (i + 1) + i = n - 1 := by omega
          simp [hi, e5]
        · have e1 : ¬ i - m < 1 := by omega
          have e2 : i - m < n := by omega
          have e3 : ¬ i < m + 1 := by omega
          have e4 : i - m - 1 = i - (m + 1) := by omega
          simp [hi2, e1, e2, e3, e4, hi]
  · have : n = 1 := by omega
    subst this
    have : m = 0 := by omega
    subst this
    simp [hi]

theorem rotateRight_succ {n : Nat} (x : BitVec n) (c : Nat) :
    (x.rotateRight 1).rotateRight c = x.rotateRight (c + 1) := by
  apply BitVec.eq_of_getLsbD_eq
  intro i hi
  have hc := Nat.mod_lt c (show 0 < n by omega)
  have hs : (c + 1) % n = if c % n + 1 = n then 0 else c % n + 1 := by
    rw [Nat.add_mod]
    rcases Nat.lt_or_ge 1 n with h1 | h1
    · rw [Nat.mod_eq_of_lt h1]
      split
      · next h => rw [h, Nat.mod_self]
      · exact Nat.mod_eq_of_lt (by omega)
    · have : n = 1 := by omega
      subst this
      simp [Nat.mod_one]
  have h1 : 1 % n = if n = 1 then 0 else 1 := by
    split
    · next h => subst h; rfl
    · exact Nat.mod_eq_of_lt (by omega)
  simp only [BitVec.getLsbD_rotateRight, hs, h1]
  generalize c % n = m at *
  rcases Nat.lt_or_ge 1 n with hn | hn
  · rw [if_neg (by omega)]
    by_cases hm : m + 1 = n
    · rw [if_pos hm]
      by_cases hi2 : i < n - m
      · have e0 : i = 0 := by omega
        subst e0
        have e1 : ¬ m < n - 1 := by omega
        have e2 : m < n := by omega
        have e3 : m - (n - 1) = 0 := by omega
        simp [hi2, e1, e2, e3, hi]
      · have e1 : i - (n - m) = i - 1 := by omega
        have e2 : i - 1 < n - 1 := by omega
        have e3 : 1 + (i - 1) = i := by omega
        simp [hi2, hi, e1, e2, e3]
    · rw [if_neg hm]
      by_cases hi2 : i < n - m
      · by_cases hi3 : i = n - m - 1
        · have e1 : ¬ m + i < n - 1 := by omega
          have e2 : m + i < n := by omega
          have e3 : m + i - (n - 1) = 0 := by omega
          have e4 : ¬ i < n - (m + 1) := by omega
          have e5 : i - (n - (m + 1)) = 0 := by omega
          simp [hi2, e1, e2, e3, e4, e5, hi]
        · have e1 : m + i < n - 1 := by omega
          have e4 : i < n - (m + 1) := by omega
          have e5 : 1 + (m + i) = m + 1 + i := by omega
          simp [hi2, e1, e4, e5]
      · have e1 : i - (n - m) < n - 1 := by omega
        have e2 : ¬ i < n - (m + 1) := by omega
        have e3 : 1 + (i - (n - m)) = i - (n - (m + 1)) := by omega
        simp [hi2, e1, e2, e3, hi]
  · have : n = 1 := by omega
    subst this
    have : m = 0 := by omega
    subst this
    simp [hi]

theorem step_rol {n : Nat} (x : Bool × BitVec n) : (ShiftOp.rol.step x) = (x.2.msb, x.2.rotateLeft 1) := by
  rcases x with ⟨cf, v⟩
  simp only [ShiftOp.step, Prod.mk.injEq, true_and]
  apply BitVec.eq_of_getLsbD_eq
  intro i hi
  have hn : 0 < n := by omega
  rw [BitVec.getLsbD_or, getLsbD_lowBit, BitVec.getLsbD_shiftLeft, BitVec.getLsbD_rotateLeft]
  rcases Nat.lt_or_ge 1 n with h1 | h1
  · rw [Nat.mod_eq_of_lt h1]
    by_cases h0 : i = 0
    · subst h0; simp [hn, BitVec.msb_eq_getLsbD_last]
    · simp [h0, hi]
  · have : n = 1 := by omega
    subst this
    have : i = 0 := by omega
    subst this
    simp [BitVec.msb_eq_getLsbD_last]

theorem step_ror {n : Nat} (x : Bool × BitVec n) : (ShiftOp.ror.step x) = (x.2.getLsbD 0, x.2.rotateRight 1) := by
  rcases x with ⟨cf, v⟩
  simp only [ShiftOp.step, Prod.mk.injEq, true_and]
  apply BitVec.eq_of_getLsbD_eq
  intro i hi
  have hn : 0 < n := by omega
  rw [BitVec.getLsbD_or, getLsbD_topBit, BitVec.getLsbD_ushiftRight, BitVec.getLsbD_rotateRight]
  rcases Nat.lt_or_ge 1 n with h1 | h1
  · rw [Nat.mod_eq_of_lt h1]
    by_cases h0 : i = n - 1
    · subst h0
      have e1 : 1 + (n - 1) = n := by omega
      have e2 : n - 1 < n := by omega
      simp [e1, e2]
    · have e1 : i < n - 1 := by omega
      simp [h0, e1]
  · have : n = 1 := by omega
    subst this
    have : i = 0 := by omega
    subst this
    simp

/-- The N + 1 bits CF ++ v of R312. -/
theorem step_rcl {n : Nat} (x : Bool × BitVec n) (hn : 0 < n) :
    BitVec.cons (ShiftOp.rcl.step x).1 (ShiftOp.rcl.step x).2 = (BitVec.cons x.1 x.2).rotateLeft 1 := by
  rcases x with ⟨cf, v⟩
  simp only [ShiftOp.step]
  apply BitVec.eq_of_getLsbD_eq
  intro i hi
  have h1 : 1 % (n + 1) = 1 := Nat.mod_eq_of_lt (by omega)
  rw [BitVec.getLsbD_rotateLeft, h1]
  by_cases h0 : i = 0
  · subst h0
    simp [-BitVec.getLsbD_eq_getElem, BitVec.getLsbD_cons, getLsbD_lowBit, hn, (show ¬ 0 = n by omega)]
  · have e0 : ¬ i < 1 := by omega
    by_cases hin : i = n
    · subst hin
      have e2 : ¬ i - 1 = i := by omega
      simp [-BitVec.getLsbD_eq_getElem, BitVec.getLsbD_cons, e0, hi, e2, BitVec.msb_eq_getLsbD_last]
    · have e1 : i < n := by omega
      have e2 : ¬ i - 1 = n := by omega
      simp [-BitVec.getLsbD_eq_getElem, BitVec.getLsbD_cons, getLsbD_lowBit, h0, hin, e0, e1, e2, hi]

theorem step_rcr {n : Nat} (x : Bool × BitVec n) (hn : 0 < n) :
    BitVec.cons (ShiftOp.rcr.step x).1 (ShiftOp.rcr.step x).2 = (BitVec.cons x.1 x.2).rotateRight 1 := by
  rcases x with ⟨cf, v⟩
  simp only [ShiftOp.step]
  apply BitVec.eq_of_getLsbD_eq
  intro i hi
  have h1 : 1 % (n + 1) = 1 := Nat.mod_eq_of_lt (by omega)
  rw [BitVec.getLsbD_rotateRight, h1]
  by_cases hin : i = n
  · subst hin
    have e2 : ¬ i < i + 1 - 1 := by omega
    have e3 : ¬ 0 = i := by omega
    simp [-BitVec.getLsbD_eq_getElem, BitVec.getLsbD_cons, e3]
  · have e0 : i < n := by omega
    by_cases hl : i = n - 1
    · subst hl
      have e1 : 1 + (n - 1) = n := by omega
      simp [-BitVec.getLsbD_eq_getElem, BitVec.getLsbD_cons, getLsbD_topBit, hin, e0, e1]
    · have e2 : ¬ 1 + i = n := by omega
      simp [-BitVec.getLsbD_eq_getElem, BitVec.getLsbD_cons, getLsbD_topBit, hin, e0, hl, e2]

/-- SHL by `c` (R307): the value, and CF for `c ≥ 1`. -/
theorem iterate_shl {n : Nat} (c : Nat) (x : Bool × BitVec n) :
    ShiftOp.shl.iterate c x =
      (if c = 0 then x.1 else decide (c ≤ n) && x.2.getLsbD (n - c), x.2 <<< c) := by
  induction c generalizing x with
  | zero => simp [ShiftOp.iterate]
  | succ c ih =>
    rw [ShiftOp.iterate, ih]
    rcases x with ⟨cf, v⟩
    simp only [ShiftOp.step, Prod.mk.injEq, BitVec.shiftLeft_add, Nat.add_comm c 1, and_true]
    by_cases hc : c = 0
    · subst hc
      by_cases hn : 0 < n
      · simp [BitVec.msb_eq_getLsbD_last, (show 1 ≤ n by omega)]
      · have : n = 0 := by omega
        subst this
        simp [BitVec.msb]
    · by_cases h1 : c + 1 ≤ n
      · have e1 : c ≤ n := by omega
        have e2 : ¬ n - c = 0 := by omega
        have e3 : n - c < n := by omega
        have e4 : n - c - 1 = n - (1 + c) := by omega
        simp [-BitVec.getLsbD_eq_getElem, hc, e1, e2, e3, e4, (show 1 + c ≤ n by omega)]
      · by_cases h2 : c ≤ n
        · have e2 : n - c = 0 := by omega
          simp [hc, e2, (show ¬ 1 + c ≤ n by omega)]
        · simp [hc, h2, (show ¬ 1 + c ≤ n by omega)]

/-- SHR by `c` (R308). -/
theorem iterate_shr {n : Nat} (c : Nat) (x : Bool × BitVec n) :
    ShiftOp.shr.iterate c x = (if c = 0 then x.1 else x.2.getLsbD (c - 1), x.2 >>> c) := by
  induction c generalizing x with
  | zero => simp [ShiftOp.iterate]
  | succ c ih =>
    rw [ShiftOp.iterate, ih]
    rcases x with ⟨cf, v⟩
    simp only [ShiftOp.step, Prod.mk.injEq, Nat.add_comm c 1]
    refine ⟨?_, by rw [BitVec.shiftRight_add]⟩
    by_cases hc : c = 0
    · subst hc; simp
    · have : 1 + (c - 1) = c := by omega
      simp [hc, this, (show 1 + c - 1 = c by omega)]

theorem step_sar {n : Nat} (x : Bool × BitVec n) :
    ShiftOp.sar.step x = (x.2.getLsbD 0, x.2.sshiftRight 1) := by
  rcases x with ⟨cf, v⟩
  simp only [ShiftOp.step, Prod.mk.injEq, true_and]
  apply BitVec.eq_of_getLsbD_eq
  intro i hi
  rw [BitVec.getLsbD_or, getLsbD_topBit, BitVec.getLsbD_ushiftRight, BitVec.getLsbD_sshiftRight]
  by_cases hl : 1 + i < n
  · simp [hl, (show ¬ i = n - 1 by omega), (show ¬ n ≤ i by omega)]
  · have h1 : i = n - 1 := by omega
    have h2 : ¬ n ≤ n - 1 := by omega
    have h3 : ¬ 1 + (n - 1) < n := by omega
    simp [h1, h2, h3, (show n - 1 < n by omega), BitVec.getLsbD_of_ge v (1 + (n - 1)) (by omega)]

theorem sshiftRight_sshiftRight {n : Nat} (v : BitVec n) (a b : Nat) :
    (v.sshiftRight a).sshiftRight b = v.sshiftRight (a + b) := by
  rw [← BitVec.sshiftRight_add]

/-- SAR by `c` (R309). -/
theorem iterate_sar {n : Nat} (c : Nat) (x : Bool × BitVec n) :
    ShiftOp.sar.iterate c x =
      (if c = 0 then x.1 else (x.2.sshiftRight (c - 1)).getLsbD 0, x.2.sshiftRight c) := by
  induction c generalizing x with
  | zero => simp [ShiftOp.iterate]
  | succ c ih =>
    rw [ShiftOp.iterate, step_sar, ih]
    by_cases hc : c = 0
    · subst hc; simp
    · simp only [sshiftRight_sshiftRight, hc, if_false, Nat.succ_ne_zero, Nat.add_sub_cancel,
        Nat.add_comm 1 c, show 1 + (c - 1) = c by omega]

/-- ROL by `c` (R310): CF is bit 0 of the result. -/
theorem iterate_rol {n : Nat} (hn : 0 < n) (c : Nat) (x : Bool × BitVec n) :
    ShiftOp.rol.iterate c x = (if c = 0 then x.1 else (x.2.rotateLeft c).getLsbD 0, x.2.rotateLeft c) := by
  induction c generalizing x with
  | zero =>
    have h : x.2.rotateLeft 0 = x.2 := by
      apply BitVec.eq_of_getLsbD_eq
      intro i hi
      simp [hi]
    simp [ShiftOp.iterate, h]
  | succ c ih =>
    rw [ShiftOp.iterate, step_rol, ih]
    by_cases hc : c = 0
    · subst hc
      simp only [rotateLeft_succ, if_true, Nat.zero_add, Nat.one_ne_zero, if_false, Prod.mk.injEq, and_true]
      rw [BitVec.getLsbD_rotateLeft, BitVec.msb_eq_getLsbD_last]
      rcases Nat.lt_or_ge 1 n with h1 | h1
      · simp [Nat.mod_eq_of_lt h1]
      · have : n = 1 := by omega
        subst this
        simp
    · simp only [rotateLeft_succ, hc, if_false, Nat.succ_ne_zero]

/-- ROR by `c` (R311): CF is the top bit of the result. -/
theorem iterate_ror {n : Nat} (hn : 0 < n) (c : Nat) (x : Bool × BitVec n) :
    ShiftOp.ror.iterate c x = (if c = 0 then x.1 else (x.2.rotateRight c).msb, x.2.rotateRight c) := by
  induction c generalizing x with
  | zero =>
    have h : x.2.rotateRight 0 = x.2 := by
      apply BitVec.eq_of_getLsbD_eq
      intro i hi
      simp [hi]
    simp [ShiftOp.iterate, h]
  | succ c ih =>
    rw [ShiftOp.iterate, step_ror, ih]
    by_cases hc : c = 0
    · subst hc
      simp only [rotateRight_succ, if_true, Nat.zero_add, Nat.one_ne_zero, if_false, Prod.mk.injEq, and_true]
      rw [BitVec.msb_eq_getLsbD_last, BitVec.getLsbD_rotateRight]
      rcases Nat.lt_or_ge 1 n with h1 | h1
      · simp [Nat.mod_eq_of_lt h1, (show n - 1 < n by omega)]
      · have : n = 1 := by omega
        subst this
        simp
    · simp only [rotateRight_succ, hc, if_false, Nat.succ_ne_zero]

/-- RCL by `c` (R312): "a rotation of the N+1 bits CF ++ v". -/
theorem iterate_rcl {n : Nat} (hn : 0 < n) (c : Nat) (x : Bool × BitVec n) :
    BitVec.cons (ShiftOp.rcl.iterate c x).1 (ShiftOp.rcl.iterate c x).2 = (BitVec.cons x.1 x.2).rotateLeft c := by
  induction c generalizing x with
  | zero =>
    apply BitVec.eq_of_getLsbD_eq
    intro i hi
    simp [ShiftOp.iterate, hi]
  | succ c ih => rw [ShiftOp.iterate, ih, step_rcl x hn, rotateLeft_succ]

/-- RCR by `c` (R313): the rotation of CF ++ v the other way. -/
theorem iterate_rcr {n : Nat} (hn : 0 < n) (c : Nat) (x : Bool × BitVec n) :
    BitVec.cons (ShiftOp.rcr.iterate c x).1 (ShiftOp.rcr.iterate c x).2 = (BitVec.cons x.1 x.2).rotateRight c := by
  induction c generalizing x with
  | zero =>
    apply BitVec.eq_of_getLsbD_eq
    intro i hi
    simp [ShiftOp.iterate, hi]
  | succ c ih => rw [ShiftOp.iterate, ih, step_rcr x hn, rotateRight_succ]

end Sys2Proof.Machine
end

