-- ==== Sys2Proof/Laws/Step.lean ====
section
/-! SUPPORT. Laws of fetch and of the step: which bytes the decoder sees, and what a step is in each run state. -/

namespace Sys2Proof.Machine

open Sys2Proof

/-- A prefix in front of any bytes: decode what follows, then put the prefix in front of the instruction (R102). -/
theorem decode_prefixes (ps : List Prefix) (bs : List Byte) :
    decode (ps.map Prefix.byte ++ bs) =
      match decode bs with
      | .ok (i, r) => .ok (i.withPrefixes ps, r)
      | .error e => .error e := by
  induction ps with
  | nil => cases h : decode bs with
    | ok x => exact h
    | error e => exact h
  | cons p ps ih =>
    rw [List.map_cons, List.cons_append, decode, prefixOf_byte]
    dsimp only
    rw [ih]
    cases decode bs with
    | ok x => rfl
    | error e => rfl

@[simp] theorem Memory.bytes_length (m : Memory) (n : Nat) (a : PAddr) : (m.bytes n a).length = n := by
  induction n generalizing a with
  | zero => rfl
  | succ n ih => rw [Memory.bytes, List.length_cons, ih]

/-- Two steps along physical memory add up, modulo 2^20 (R78). -/
theorem paddr_add_succ (a : PAddr) (k : Nat) : a + BitVec.ofNat 20 (k + 1) = a + 1 + BitVec.ofNat 20 k := by
  rw [Nat.add_comm, BitVec.ofNat_add, BitVec.add_assoc]
  rfl

theorem paddr_add_zero (a : PAddr) : a + BitVec.ofNat 20 0 = a := BitVec.add_zero a

/-- Byte k of a run of bytes is at `a + k` (R78). -/
theorem Memory.bytes_getElem? (m : Memory) (n : Nat) (a : PAddr) (k : Nat) (h : k < n) :
    (m.bytes n a)[k]? = some (m.byteAt (a + BitVec.ofNat 20 k)) := by
  induction n generalizing a k with
  | zero => omega
  | succ n ih =>
    cases k with
    | zero => rw [Memory.bytes, List.getElem?_cons_zero, paddr_add_zero]
    | succ k => rw [Memory.bytes, List.getElem?_cons_succ, ih (a + 1) k (by omega), paddr_add_succ]

/-- Bytes that lie in memory from `a` upward are what `bytes` reads there, as far as they go. -/
theorem Memory.bytes_eq_append (m : Memory) (bs : List Byte) (n : Nat) (a : PAddr) (hn : bs.length ≤ n)
    (h : ∀ k b, bs[k]? = some b → m.byteAt (a + BitVec.ofNat 20 k) = b) :
    m.bytes n a = bs ++ m.bytes (n - bs.length) (a + BitVec.ofNat 20 bs.length) := by
  induction bs generalizing n a with
  | nil => rw [List.length_nil, Nat.sub_zero, paddr_add_zero, List.nil_append]
  | cons b bs ih =>
    obtain ⟨n, rfl⟩ : ∃ k, n = k + 1 := ⟨n - 1, by rw [List.length_cons] at hn; omega⟩
    have h0 : m.byteAt a = b := by simpa using h 0 b rfl
    rw [Memory.bytes, h0, ih n (a + 1) (by simpa using hn) (fun k c hk => by rw [← paddr_add_succ]; exact h (k + 1) c hk),
      List.length_cons, paddr_add_succ, List.cons_append, Nat.add_sub_add_right]

theorem Memory.fetch_body (m : Memory) (n : Nat) (a : PAddr) (h : prefixOf (m.byteAt a) = none) :
    m.fetch (n + 1) a = m.bytes maxBodyLen a := by
  rw [Memory.fetch, h]

/-- Prefix bytes in memory from `a` upward are fetched in order (R78, R102). -/
theorem Memory.fetch_prefixes (m : Memory) (ps : List Prefix) (n : Nat) (a : PAddr)
    (h : ∀ k p, ps[k]? = some p → m.byteAt (a + BitVec.ofNat 20 k) = p.byte) :
    m.fetch (ps.length + n) a = ps.map Prefix.byte ++ m.fetch n (a + BitVec.ofNat 20 ps.length) := by
  induction ps generalizing a with
  | nil => rw [List.length_nil, Nat.zero_add, paddr_add_zero, List.map_nil, List.nil_append]
  | cons p ps ih =>
    have h0 : m.byteAt a = p.byte := by simpa using h 0 p rfl
    rw [List.length_cons, Nat.add_right_comm, Memory.fetch, h0, prefixOf_byte]
    dsimp only
    rw [ih (a + 1) (fun k q hk => by rw [← paddr_add_succ]; exact h (k + 1) q hk), paddr_add_succ, List.map_cons,
      List.cons_append]

/-- What a fetch of at most `n` prefixes is: `n` prefix bytes, or fewer and the bytes from the opcode on (R102, R103). -/
theorem Memory.fetch_cases (m : Memory) (n : Nat) (a : PAddr) :
    ∃ ps : List Prefix, (∀ k p, ps[k]? = some p → m.byteAt (a + BitVec.ofNat 20 k) = p.byte) ∧
      ((ps.length = n ∧ m.fetch n a = ps.map Prefix.byte) ∨
        (ps.length < n ∧ prefixOf (m.byteAt (a + BitVec.ofNat 20 ps.length)) = none ∧
          m.fetch n a = ps.map Prefix.byte ++ m.bytes maxBodyLen (a + BitVec.ofNat 20 ps.length))) := by
  induction n generalizing a with
  | zero => exact ⟨[], by simp, .inl ⟨rfl, rfl⟩⟩
  | succ n ih =>
    cases hp : prefixOf (m.byteAt a) with
    | none =>
      refine ⟨[], by simp, .inr ⟨Nat.succ_pos n, ?_, ?_⟩⟩
      · rwa [List.length_nil, paddr_add_zero]
      · rw [Memory.fetch_body m n a hp, List.length_nil, paddr_add_zero, List.map_nil,
          List.nil_append]
    | some p =>
      obtain ⟨ps, hps, hc⟩ := ih (a + 1)
      have hb := prefixOf_eq_some hp
      have hf : m.fetch (n + 1) a = p.byte :: m.fetch n (a + 1) := by rw [Memory.fetch, hp, hb]
      refine ⟨p :: ps, fun k q hk => ?_, ?_⟩
      · cases k with
        | zero =>
          obtain rfl : p = q := by simpa using hk
          simpa using hb
        | succ k =>
          rw [paddr_add_succ]
          exact hps k q hk
      · rw [List.length_cons, paddr_add_succ, hf]
        rcases hc with ⟨hl, he⟩ | ⟨hl, hn, he⟩
        · exact .inl ⟨by rw [hl], by rw [he, List.map_cons]⟩
        · exact .inr ⟨by omega, hn, by rw [he, List.map_cons, List.cons_append]⟩

theorem step_of_stopped (s : State) (h : s.run ≠ .running) : step s = .next s := by
  unfold step
  cases hr : s.run with
  | running => exact absurd hr h
  | halted => rfl
  | faulted => rfl

theorem step_of_decode (s : State) (i : Instr) (r : List Byte) (h : s.run = .running)
    (hd : s.fetchInstr = .ok (i, r)) : step s = exec i s := by
  rw [step, h]
  dsimp only
  rw [hd]

theorem step_of_error (s : State) (e : DecodeError) (h : s.run = .running) (hd : s.fetchInstr = .error e) :
    step s = decodeFailure e s := by
  rw [step, h]
  dsimp only
  rw [hd]

/-- A step in one lemma: a stopped core stays, an instruction runs, or the decoder's failure is taken. -/
theorem step_cases (s : State) :
    (s.run ≠ .running ∧ step s = .next s) ∨
    (s.run = .running ∧ ∃ i r, s.fetchInstr = .ok (i, r) ∧ step s = exec i s) ∨
    (s.run = .running ∧ ∃ e, s.fetchInstr = .error e ∧ step s = decodeFailure e s) := by
  by_cases h : s.run = .running
  · cases hd : s.fetchInstr with
    | ok x => exact .inr (.inl ⟨h, x.1, x.2, rfl, step_of_decode s x.1 x.2 h hd⟩)
    | error e => exact .inr (.inr ⟨h, e, rfl, step_of_error s e h hd⟩)
  · exact .inl ⟨h, step_of_stopped s h⟩

end Sys2Proof.Machine
end

