-- ==== Sys2Proof/Tests/Slice0.lean ====
section
/-! SUPPORT. Tests of the model: ill-formed terms, the decoding of every constructor, vectors of spec/95_test_vectors.md,
and a witness for every statement that has hypotheses. Expected values come from the spec's encodings and vectors. -/

namespace Sys2Proof.Tests

open Sys2Proof Sys2Proof.Machine Sys2Proof.Claims

/-! ## Helpers -/

/-- The default start of 95_test_vectors.md: everything zero, CS:IP = 0000:0100. -/
def start : State := { State.reset with ip := 0x0100 }

/-- Data in memory, and code at CS:IP. -/
def placed (s : State) (code : List Byte) (data : List (PAddr × List Byte)) : State :=
  (data.foldl (fun u d => u.load d.1 d.2) s).load (phys s.cs s.ip) code

/-- What one step leaves, seen through `f`. -/
def ran {α : Type} (s : State) (f : State → α) : Option α :=
  match step s with
  | .next t => some (f t)
  | .fault _ => none
  | .refused _ => none

/-! ## Ill-formed terms, and their well-formed neighbours -/

theorem test_wf_bp_without_displacement : (Instr.movRmReg .toReg .word .r0 (.mem .bp .none)).wf = false := by decide

theorem test_wf_bp_with_displacement : (Instr.movRmReg .toReg .word .r0 (.mem .bp (.d8 0))).wf = true := by decide

theorem test_wf_lea_register : (Instr.lea .r0 (.reg .r0)).wf = false := by decide

theorem test_wf_les_register : (Instr.les .r0 (.reg .r0)).wf = false := by decide

theorem test_wf_lds_register : (Instr.lds .r0 (.reg .r0)).wf = false := by decide

theorem test_wf_call_far_register : (Instr.callFarRm (.reg .r0)).wf = false := by decide

theorem test_wf_jmp_far_register : (Instr.jmpFarRm (.reg .r0)).wf = false := by decide

theorem test_wf_behind_prefix : (Instr.lock (.lea .r0 (.reg .r0))).wf = false := by decide

theorem test_wf_lea_memory : (Instr.lock (.lea .r0 (.direct 0))).wf = true := by decide

/-- A run of 2^20 prefixes leaves no room for an opcode in memory (R103); one fewer does. -/
theorem test_wf_prefix_bound (n : Nat) :
    (Instr.nop.withPrefixes (List.replicate n .lock)).wf = decide (n < 0x100000) := by
  have h : (Instr.nop.withPrefixes (List.replicate n .lock)).prefixCount = n ∧
      (Instr.nop.withPrefixes (List.replicate n .lock)).operandsOk = true := by
    induction n with
    | zero => exact ⟨rfl, rfl⟩
    | succ n ih => exact ⟨congrArg (· + 1) ih.1, ih.2⟩
  rw [Instr.wf, Instr.prefixesOk, h.1, h.2]
  rfl

/-! ## Decoding -/

/-- ADD, opcodes 00 to 05 and 80 to 83 /0 (R124, R125, R252). -/
theorem test_decode_add :
    decode [0x03, 0x4E, 0xFE] = .ok (.addRmReg .toReg .word .r1 (.mem .bp (.d8 0xFE)), []) ∧
    decode [0x00, 0x1E, 0x34, 0x12] = .ok (.addRmReg .toRM .byte .r3 (.direct 0x1234), []) ∧
    decode [0x04, 0x7F] = .ok (.addAl 0x7F, []) ∧
    decode [0x05, 0x34, 0x12] = .ok (.addAx 0x1234, []) ∧
    decode [0x80, 0xC2, 0x11] = .ok (.addRm8Imm8 (.reg .r2) 0x11, []) ∧
    decode [0x81, 0x87, 0x00, 0x80, 0x34, 0x12] = .ok (.addRm16Imm16 (.mem .bx (.d16 0x8000)) 0x1234, []) ∧
    decode [0x82, 0x03, 0x80] = .ok (.addRm8Imm8Alt (.mem .bpdi .none) 0x80, []) ∧
    decode [0x83, 0xC4, 0xFF] = .ok (.addRm16Imm8 (.reg .r4) 0xFF, []) := by
  and_intros <;> rfl

/-- OR, opcodes 08 to 0D and 80 to 83 /1 (R124, R125, R302). -/
theorem test_decode_or :
    decode [0x0B, 0x4E, 0xFE] = .ok (.orRmReg .toReg .word .r1 (.mem .bp (.d8 0xFE)), []) ∧
    decode [0x08, 0x1E, 0x34, 0x12] = .ok (.orRmReg .toRM .byte .r3 (.direct 0x1234), []) ∧
    decode [0x0C, 0x7F] = .ok (.orAl 0x7F, []) ∧
    decode [0x0D, 0x34, 0x12] = .ok (.orAx 0x1234, []) ∧
    decode [0x80, 0xCA, 0x11] = .ok (.orRm8Imm8 (.reg .r2) 0x11, []) ∧
    decode [0x81, 0x8F, 0x00, 0x80, 0x34, 0x12] = .ok (.orRm16Imm16 (.mem .bx (.d16 0x8000)) 0x1234, []) ∧
    decode [0x82, 0x0B, 0x80] = .ok (.orRm8Imm8Alt (.mem .bpdi .none) 0x80, []) ∧
    decode [0x83, 0xCC, 0xFF] = .ok (.orRm16Imm8 (.reg .r4) 0xFF, []) := by
  and_intros <;> rfl

/-- ADC, opcodes 10 to 15 and 80 to 83 /2 (R124, R125, R253). -/
theorem test_decode_adc :
    decode [0x13, 0x4E, 0xFE] = .ok (.adcRmReg .toReg .word .r1 (.mem .bp (.d8 0xFE)), []) ∧
    decode [0x10, 0x1E, 0x34, 0x12] = .ok (.adcRmReg .toRM .byte .r3 (.direct 0x1234), []) ∧
    decode [0x14, 0x7F] = .ok (.adcAl 0x7F, []) ∧
    decode [0x15, 0x34, 0x12] = .ok (.adcAx 0x1234, []) ∧
    decode [0x80, 0xD2, 0x11] = .ok (.adcRm8Imm8 (.reg .r2) 0x11, []) ∧
    decode [0x81, 0x97, 0x00, 0x80, 0x34, 0x12] = .ok (.adcRm16Imm16 (.mem .bx (.d16 0x8000)) 0x1234, []) ∧
    decode [0x82, 0x13, 0x80] = .ok (.adcRm8Imm8Alt (.mem .bpdi .none) 0x80, []) ∧
    decode [0x83, 0xD4, 0xFF] = .ok (.adcRm16Imm8 (.reg .r4) 0xFF, []) := by
  and_intros <;> rfl

/-- SBB, opcodes 18 to 1D and 80 to 83 /3 (R124, R125, R255). -/
theorem test_decode_sbb :
    decode [0x1B, 0x4E, 0xFE] = .ok (.sbbRmReg .toReg .word .r1 (.mem .bp (.d8 0xFE)), []) ∧
    decode [0x18, 0x1E, 0x34, 0x12] = .ok (.sbbRmReg .toRM .byte .r3 (.direct 0x1234), []) ∧
    decode [0x1C, 0x7F] = .ok (.sbbAl 0x7F, []) ∧
    decode [0x1D, 0x34, 0x12] = .ok (.sbbAx 0x1234, []) ∧
    decode [0x80, 0xDA, 0x11] = .ok (.sbbRm8Imm8 (.reg .r2) 0x11, []) ∧
    decode [0x81, 0x9F, 0x00, 0x80, 0x34, 0x12] = .ok (.sbbRm16Imm16 (.mem .bx (.d16 0x8000)) 0x1234, []) ∧
    decode [0x82, 0x1B, 0x80] = .ok (.sbbRm8Imm8Alt (.mem .bpdi .none) 0x80, []) ∧
    decode [0x83, 0xDC, 0xFF] = .ok (.sbbRm16Imm8 (.reg .r4) 0xFF, []) := by
  and_intros <;> rfl

/-- AND, opcodes 20 to 25 and 80 to 83 /4 (R124, R125, R301). -/
theorem test_decode_and :
    decode [0x23, 0x4E, 0xFE] = .ok (.andRmReg .toReg .word .r1 (.mem .bp (.d8 0xFE)), []) ∧
    decode [0x20, 0x1E, 0x34, 0x12] = .ok (.andRmReg .toRM .byte .r3 (.direct 0x1234), []) ∧
    decode [0x24, 0x7F] = .ok (.andAl 0x7F, []) ∧
    decode [0x25, 0x34, 0x12] = .ok (.andAx 0x1234, []) ∧
    decode [0x80, 0xE2, 0x11] = .ok (.andRm8Imm8 (.reg .r2) 0x11, []) ∧
    decode [0x81, 0xA7, 0x00, 0x80, 0x34, 0x12] = .ok (.andRm16Imm16 (.mem .bx (.d16 0x8000)) 0x1234, []) ∧
    decode [0x82, 0x23, 0x80] = .ok (.andRm8Imm8Alt (.mem .bpdi .none) 0x80, []) ∧
    decode [0x83, 0xE4, 0xFF] = .ok (.andRm16Imm8 (.reg .r4) 0xFF, []) := by
  and_intros <;> rfl

/-- SUB, opcodes 28 to 2D and 80 to 83 /5 (R124, R125, R254). -/
theorem test_decode_sub :
    decode [0x2B, 0x4E, 0xFE] = .ok (.subRmReg .toReg .word .r1 (.mem .bp (.d8 0xFE)), []) ∧
    decode [0x28, 0x1E, 0x34, 0x12] = .ok (.subRmReg .toRM .byte .r3 (.direct 0x1234), []) ∧
    decode [0x2C, 0x7F] = .ok (.subAl 0x7F, []) ∧
    decode [0x2D, 0x34, 0x12] = .ok (.subAx 0x1234, []) ∧
    decode [0x80, 0xEA, 0x11] = .ok (.subRm8Imm8 (.reg .r2) 0x11, []) ∧
    decode [0x81, 0xAF, 0x00, 0x80, 0x34, 0x12] = .ok (.subRm16Imm16 (.mem .bx (.d16 0x8000)) 0x1234, []) ∧
    decode [0x82, 0x2B, 0x80] = .ok (.subRm8Imm8Alt (.mem .bpdi .none) 0x80, []) ∧
    decode [0x83, 0xEC, 0xFF] = .ok (.subRm16Imm8 (.reg .r4) 0xFF, []) := by
  and_intros <;> rfl

/-- XOR, opcodes 30 to 35 and 80 to 83 /6 (R124, R125, R303). -/
theorem test_decode_xor :
    decode [0x33, 0x4E, 0xFE] = .ok (.xorRmReg .toReg .word .r1 (.mem .bp (.d8 0xFE)), []) ∧
    decode [0x30, 0x1E, 0x34, 0x12] = .ok (.xorRmReg .toRM .byte .r3 (.direct 0x1234), []) ∧
    decode [0x34, 0x7F] = .ok (.xorAl 0x7F, []) ∧
    decode [0x35, 0x34, 0x12] = .ok (.xorAx 0x1234, []) ∧
    decode [0x80, 0xF2, 0x11] = .ok (.xorRm8Imm8 (.reg .r2) 0x11, []) ∧
    decode [0x81, 0xB7, 0x00, 0x80, 0x34, 0x12] = .ok (.xorRm16Imm16 (.mem .bx (.d16 0x8000)) 0x1234, []) ∧
    decode [0x82, 0x33, 0x80] = .ok (.xorRm8Imm8Alt (.mem .bpdi .none) 0x80, []) ∧
    decode [0x83, 0xF4, 0xFF] = .ok (.xorRm16Imm8 (.reg .r4) 0xFF, []) := by
  and_intros <;> rfl

/-- CMP, opcodes 38 to 3D and 80 to 83 /7 (R124, R125, R256). -/
theorem test_decode_cmp :
    decode [0x3B, 0x4E, 0xFE] = .ok (.cmpRmReg .toReg .word .r1 (.mem .bp (.d8 0xFE)), []) ∧
    decode [0x38, 0x1E, 0x34, 0x12] = .ok (.cmpRmReg .toRM .byte .r3 (.direct 0x1234), []) ∧
    decode [0x3C, 0x7F] = .ok (.cmpAl 0x7F, []) ∧
    decode [0x3D, 0x34, 0x12] = .ok (.cmpAx 0x1234, []) ∧
    decode [0x80, 0xFA, 0x11] = .ok (.cmpRm8Imm8 (.reg .r2) 0x11, []) ∧
    decode [0x81, 0xBF, 0x00, 0x80, 0x34, 0x12] = .ok (.cmpRm16Imm16 (.mem .bx (.d16 0x8000)) 0x1234, []) ∧
    decode [0x82, 0x3B, 0x80] = .ok (.cmpRm8Imm8Alt (.mem .bpdi .none) 0x80, []) ∧
    decode [0x83, 0xFC, 0xFF] = .ok (.cmpRm16Imm8 (.reg .r4) 0xFF, []) := by
  and_intros <;> rfl

/-- The stack instructions (R124, R125, R207, R208). -/
theorem test_decode_stack :
    decode [0x06] = .ok (.pushEs, []) ∧
    decode [0x0E] = .ok (.pushCs, []) ∧
    decode [0x16] = .ok (.pushSs, []) ∧
    decode [0x1E] = .ok (.pushDs, []) ∧
    decode [0x07] = .ok (.popEs, []) ∧
    decode [0x17] = .ok (.popSs, []) ∧
    decode [0x1F] = .ok (.popDs, []) ∧
    decode [0x57] = .ok (.pushReg .r7, []) ∧
    decode [0x5C] = .ok (.popReg .r4, []) ∧
    decode [0x8F, 0x06, 0x00, 0x03] = .ok (.popRm (.direct 0x0300), []) ∧
    decode [0xFF, 0x36, 0x00, 0x03] = .ok (.pushRm (.direct 0x0300), []) ∧
    decode [0x9C] = .ok (.pushf, []) ∧
    decode [0x9D] = .ok (.popf, []) := by
  and_intros <;> rfl

/-- The seven prefix bytes in front of an instruction (R101). -/
theorem test_decode_prefixes :
    decode [0x26, 0xA4] = .ok (.segEs (.movs .byte), []) ∧
    decode [0x2E, 0x8B, 0x07] = .ok (.segCs (.movRmReg .toReg .word .r0 (.mem .bx .none)), []) ∧
    decode [0x36, 0xD7] = .ok (.segSs .xlat, []) ∧
    decode [0x3E, 0x8B, 0x46, 0x00] = .ok (.segDs (.movRmReg .toReg .word .r0 (.mem .bp (.d8 0))), []) ∧
    decode [0xF0, 0x87, 0x07] = .ok (.lock (.xchgRmReg .word .r0 (.mem .bx .none)), []) ∧
    decode [0xF2, 0xAE] = .ok (.repne (.scas .byte), []) ∧
    decode [0xF3, 0xA5] = .ok (.rep (.movs .word), []) ∧
    decode [0xF3, 0xF3, 0x2E, 0x90] = .ok (.rep (.rep (.segCs .nop)), []) := by
  and_intros <;> rfl

/-- The decimal and ASCII adjustments and the conversions (R124). -/
theorem test_decode_adjust :
    decode [0x27] = .ok (.daa, []) ∧
    decode [0x2F] = .ok (.das, []) ∧
    decode [0x37] = .ok (.aaa, []) ∧
    decode [0x3F] = .ok (.aas, []) ∧
    decode [0xD4, 0x0A] = .ok (.aam 0x0A, []) ∧
    decode [0xD5, 0x0A] = .ok (.aad 0x0A, []) ∧
    decode [0x98] = .ok (.cbw, []) ∧
    decode [0x99] = .ok (.cwd, []) ∧
    decode [0xD7] = .ok (.xlat, []) := by
  and_intros <;> rfl

/-- INC, DEC, NOT, NEG (R124, R125). -/
theorem test_decode_incdec :
    decode [0x45] = .ok (.incReg .r5, []) ∧
    decode [0x4E] = .ok (.decReg .r6, []) ∧
    decode [0xFE, 0xC0] = .ok (.incRm .byte (.reg .r0), []) ∧
    decode [0xFF, 0x0F] = .ok (.decRm .word (.mem .bx .none), []) ∧
    decode [0xF7, 0xD3] = .ok (.notRm .word (.reg .r3), []) ∧
    decode [0xF6, 0x5A, 0x80] = .ok (.negRm .byte (.mem .bpsi (.d8 0x80)), []) := by
  and_intros <;> rfl

/-- The sixteen conditional jumps, 70 to 7F (R124, R372). -/
theorem test_decode_jcc :
    decode [0x70, 0xFE] = .ok (.jo 0xFE, []) ∧
    decode [0x71, 0xFE] = .ok (.jno 0xFE, []) ∧
    decode [0x72, 0xFE] = .ok (.jb 0xFE, []) ∧
    decode [0x73, 0xFE] = .ok (.jnb 0xFE, []) ∧
    decode [0x74, 0xFE] = .ok (.jz 0xFE, []) ∧
    decode [0x75, 0xFE] = .ok (.jnz 0xFE, []) ∧
    decode [0x76, 0xFE] = .ok (.jbe 0xFE, []) ∧
    decode [0x77, 0xFE] = .ok (.jnbe 0xFE, []) ∧
    decode [0x78, 0xFE] = .ok (.js 0xFE, []) ∧
    decode [0x79, 0xFE] = .ok (.jns 0xFE, []) ∧
    decode [0x7A, 0xFE] = .ok (.jp 0xFE, []) ∧
    decode [0x7B, 0xFE] = .ok (.jnp 0xFE, []) ∧
    decode [0x7C, 0xFE] = .ok (.jl 0xFE, []) ∧
    decode [0x7D, 0xFE] = .ok (.jnl 0xFE, []) ∧
    decode [0x7E, 0xFE] = .ok (.jle 0xFE, []) ∧
    decode [0x7F, 0xFE] = .ok (.jnle 0xFE, []) := by
  and_intros <;> rfl

/-- MOV, LEA, LES, LDS and XCHG (R124, R125, R200 to R206, R211, R212, R215, R220, R221). -/
theorem test_decode_mov :
    decode [0x89, 0x1F] = .ok (.movRmReg .toRM .word .r3 (.mem .bx .none), []) ∧
    decode [0x8A, 0xE6] = .ok (.movRmReg .toReg .byte .r4 (.reg .r6), []) ∧
    decode [0x8C, 0xD8] = .ok (.movRmSreg .ds (.reg .r0), []) ∧
    decode [0x8E, 0x06, 0x00, 0x02] = .ok (.movSregRm .es (.direct 0x0200), []) ∧
    decode [0xA0, 0xFF, 0x00] = .ok (.movAccMoffs .byte 0x00FF, []) ∧
    decode [0xA3, 0x00, 0x03] = .ok (.movMoffsAcc .word 0x0300, []) ∧
    decode [0xB4, 0xFF] = .ok (.movReg8Imm .r4 0xFF, []) ∧
    decode [0xBF, 0x00, 0x03] = .ok (.movReg16Imm .r7 0x0300, []) ∧
    decode [0xC6, 0x46, 0xFF, 0x7F] = .ok (.movRm8Imm8 (.mem .bp (.d8 0xFF)) 0x7F, []) ∧
    decode [0xC7, 0x06, 0x00, 0x02, 0xCD, 0xAB] = .ok (.movRm16Imm16 (.direct 0x0200) 0xABCD, []) ∧
    decode [0x8D, 0x40, 0x05] = .ok (.lea .r0 (.mem .bxsi (.d8 5)), []) ∧
    decode [0xC4, 0x3E, 0x00, 0x02] = .ok (.les .r7 (.direct 0x0200), []) ∧
    decode [0xC5, 0x1E, 0x00, 0x02] = .ok (.lds .r3 (.direct 0x0200), []) ∧
    decode [0x86, 0xE0] = .ok (.xchgRmReg .byte .r4 (.reg .r0), []) ∧
    decode [0x90] = .ok (.nop, []) ∧
    decode [0x91] = .ok (.xchgAxCx, []) ∧
    decode [0x92] = .ok (.xchgAxDx, []) ∧
    decode [0x93] = .ok (.xchgAxBx, []) ∧
    decode [0x94] = .ok (.xchgAxSp, []) ∧
    decode [0x95] = .ok (.xchgAxBp, []) ∧
    decode [0x96] = .ok (.xchgAxSi, []) ∧
    decode [0x97] = .ok (.xchgAxDi, []) := by
  and_intros <;> rfl

/-- TEST (R124, R125, R304). -/
theorem test_decode_test :
    decode [0x85, 0xC8] = .ok (.testRmReg .word .r1 (.reg .r0), []) ∧
    decode [0xA8, 0x80] = .ok (.testAl 0x80, []) ∧
    decode [0xA9, 0x00, 0x80] = .ok (.testAx 0x8000, []) ∧
    decode [0xF6, 0x07, 0x01] = .ok (.testRm8Imm8 (.mem .bx .none) 0x01, []) ∧
    decode [0xF7, 0x06, 0x00, 0x02, 0x00, 0x80] = .ok (.testRm16Imm16 (.direct 0x0200) 0x8000, []) := by
  and_intros <;> rfl

/-- MUL, IMUL, DIV, IDIV (R125). -/
theorem test_decode_muldiv :
    decode [0xF6, 0xE3] = .ok (.mulRm .byte (.reg .r3), []) ∧
    decode [0xF7, 0xEB] = .ok (.imulRm .word (.reg .r3), []) ∧
    decode [0xF6, 0xF0] = .ok (.divRm .byte (.reg .r0), []) ∧
    decode [0xF7, 0xFB] = .ok (.idivRm .word (.reg .r3), []) := by
  and_intros <;> rfl

/-- The shift and rotate group, D0 to D3 (R104, R125, R306). -/
theorem test_decode_shift :
    decode [0xD0, 0xC0] = .ok (.rolRm .one .byte (.reg .r0), []) ∧
    decode [0xD2, 0xC8] = .ok (.rorRm .cl .byte (.reg .r0), []) ∧
    decode [0xD1, 0xD1] = .ok (.rclRm .one .word (.reg .r1), []) ∧
    decode [0xD3, 0x1F] = .ok (.rcrRm .cl .word (.mem .bx .none), []) ∧
    decode [0xD2, 0xE1] = .ok (.shlRm .cl .byte (.reg .r1), []) ∧
    decode [0xD1, 0xE8] = .ok (.shrRm .one .word (.reg .r0), []) ∧
    decode [0xD3, 0xF8] = .ok (.sarRm .cl .word (.reg .r0), []) := by
  and_intros <;> rfl

/-- The string instructions (R124, R340). -/
theorem test_decode_strings :
    decode [0xA4] = .ok (.movs .byte, []) ∧
    decode [0xA7] = .ok (.cmps .word, []) ∧
    decode [0xAA] = .ok (.stos .byte, []) ∧
    decode [0xAD] = .ok (.lods .word, []) ∧
    decode [0xAF] = .ok (.scas .word, []) := by
  and_intros <;> rfl

/-- IN and OUT (R124, R213, R214). -/
theorem test_decode_io :
    decode [0xE4, 0x60] = .ok (.inImm .byte 0x60, []) ∧
    decode [0xE7, 0x61] = .ok (.outImm .word 0x61, []) ∧
    decode [0xED] = .ok (.inDx .word, []) ∧
    decode [0xEE] = .ok (.outDx .byte, []) := by
  and_intros <;> rfl

/-- The control transfers (R124, R125, R360 to R380). -/
theorem test_decode_transfer :
    decode [0xE8, 0x10, 0x00] = .ok (.callRel 0x0010, []) ∧
    decode [0xFF, 0xD4] = .ok (.callRm (.reg .r4), []) ∧
    decode [0x9A, 0x00, 0x02, 0x00, 0x30] = .ok (.callFar 0x0200 0x3000, []) ∧
    decode [0xFF, 0x1E, 0x00, 0x03] = .ok (.callFarRm (.direct 0x0300), []) ∧
    decode [0xEB, 0x80] = .ok (.jmpShort 0x80, []) ∧
    decode [0xE9, 0xFD, 0xFF] = .ok (.jmpRel 0xFFFD, []) ∧
    decode [0xFF, 0xE0] = .ok (.jmpRm (.reg .r0), []) ∧
    decode [0xEA, 0x00, 0x00, 0xFF, 0xFF] = .ok (.jmpFar 0x0000 0xFFFF, []) ∧
    decode [0xFF, 0x2F] = .ok (.jmpFarRm (.mem .bx .none), []) ∧
    decode [0xC3] = .ok (.ret, []) ∧
    decode [0xC2, 0x04, 0x00] = .ok (.retImm 0x0004, []) ∧
    decode [0xCB] = .ok (.retf, []) ∧
    decode [0xCA, 0x02, 0x00] = .ok (.retfImm 0x0002, []) ∧
    decode [0xE0, 0x10] = .ok (.loopnz 0x10, []) ∧
    decode [0xE1, 0x10] = .ok (.loopz 0x10, []) ∧
    decode [0xE2, 0xFE] = .ok (.loop 0xFE, []) ∧
    decode [0xE3, 0x10] = .ok (.jcxz 0x10, []) ∧
    decode [0xCC] = .ok (.int3, []) ∧
    decode [0xCD, 0x21] = .ok (.intImm 0x21, []) ∧
    decode [0xCE] = .ok (.into, []) ∧
    decode [0xCF] = .ok (.iret, []) := by
  and_intros <;> rfl

/-- Processor control, SAHF and LAHF (R124, R216, R217, R410 to R421). -/
theorem test_decode_control :
    decode [0xF8] = .ok (.clc, []) ∧
    decode [0xF9] = .ok (.stc, []) ∧
    decode [0xF5] = .ok (.cmc, []) ∧
    decode [0xFC] = .ok (.cld, []) ∧
    decode [0xFD] = .ok (.std, []) ∧
    decode [0xFA] = .ok (.cli, []) ∧
    decode [0xFB] = .ok (.sti, []) ∧
    decode [0xF4] = .ok (.hlt, []) ∧
    decode [0x9B] = .ok (.wait, []) ∧
    decode [0x9E] = .ok (.sahf, []) ∧
    decode [0x9F] = .ok (.lahf, []) ∧
    decode [0xD9, 0x06, 0x00, 0x01] = .ok (.esc .r1 .r0 (.direct 0x0100), []) ∧
    decode [0xDF, 0xC1] = .ok (.esc .r7 .r0 (.reg .r1), []) := by
  and_intros <;> rfl

/-- The listed absent opcodes and ModRM combinations are refused by name (R126, R127; vectors E5, E6, E8, E9, E12, E18). -/
theorem test_decode_refuses :
    decode [0x60] = .error (.unknownOpcode 0x60) ∧
    decode [0x26, 0xF1] = .error (.unknownOpcode 0xF1) ∧
    decode [0xFF, 0xFF] = .error (.unresolvableModRM 0xFF 0xFF) ∧
    decode [0x8D, 0xC0] = .error (.unresolvableModRM 0x8D 0xC0) ∧
    decode [0xD0, 0xF0] = .error (.unresolvableModRM 0xD0 0xF0) ∧
    decode [0x8E, 0xE0] = .error (.unresolvableModRM 0x8E 0xE0) ∧
    decode [0xC7, 0xC8, 0x34, 0x12] = .error (.unresolvableModRM 0xC7 0xC8) := by
  and_intros <;> rfl

/-- The instruction class (R122): the first and the last of the six families, and the rows the spec argues about: TEST is
logic, ESC processor control (90_conflicts.md C1, C2), XLAT data transfer, INTO control transfer, and a prefix takes the
class of its instruction. -/
theorem test_class :
    (Instr.movReg8Imm .r0 0).cls = .dataTransfer ∧ Instr.xlat.cls = .dataTransfer ∧ (Instr.inDx .byte).cls = .dataTransfer ∧
    (Instr.cmpAl 0).cls = .arithmetic ∧ (Instr.aam 10).cls = .arithmetic ∧ (Instr.testAl 0).cls = .logic ∧
    (Instr.rcrRm .cl .word (.reg .r0)).cls = .logic ∧ (Instr.rep (.cmps .byte)).cls = .string ∧
    Instr.into.cls = .controlTransfer ∧ (Instr.jcxz 0).cls = .controlTransfer ∧
    (Instr.esc .r0 .r0 (.reg .r0)).cls = .processorControl ∧ Instr.nop.cls = .processorControl ∧
    (Instr.lock (.xchgRmReg .word .r0 (.direct 0))).cls = .dataTransfer := by decide

/-- The control transfers of R370 are the class of that name, and the string instructions of R102 theirs (R122). -/
theorem test_class_of_body (i : Instr) :
    transfers i.body = decide (i.cls = .controlTransfer) ∧ isString i.body = decide (i.cls = .string) := by
  induction i with
  | segEs rest ih => exact ih
  | segCs rest ih => exact ih
  | segSs rest ih => exact ih
  | segDs rest ih => exact ih
  | lock rest ih => exact ih
  | repne rest ih => exact ih
  | rep rest ih => exact ih
  | _ => exact ⟨rfl, rfl⟩

/-- The opcode table's own numbering, b0 in bits 15:8 (R132), and a step that runs a table word after reset. -/
theorem test_table_word :
    decodeTableWord 16 0x8BC3 = some (.movRmReg .toReg .word .r0 (.reg .r3)) ∧
    decodeTableWord 16 0xF400 = some .hlt ∧
    ran (State.reset.withFetchWord 16 0xF400) (fun t => (t.run, t.ip)) = some (.halted, 1) := by
  decide

/-! ## Vectors of 95_test_vectors.md, by their ids -/

/-- Effective addresses and segments (vectors E1, E2, E3, E4, E15). -/
theorem test_addressing :
    ran (placed { start with bp := 0x0200, ss := 0x1000 } [0x8B, 0x46, 0xFE] [(0x101FE, [0xEF, 0xBE])])
      (fun t => (t.ax, t.ip)) = some (0xBEEF, 0x0103) ∧
    ran (placed { start with ds := 0x0010, bp := 0x5555 } [0x8B, 0x06, 0x34, 0x12] [(0x1334, [0xCD, 0xAB])])
      (fun t => (t.ax, t.ip)) = some (0xABCD, 0x0104) ∧
    ran (placed { start with es := 0x2000, bx := 0x0010 } [0x26, 0x8B, 0x07] [(0x20010, [0x78, 0x56]), (0x10, [0x11, 0x11])])
      (fun t => (t.ax, t.ip)) = some (0x5678, 0x0103) ∧
    ran (placed { start with bx := 0x9000, si := 1 } [0x8B, 0x80, 0x00, 0x80] [(0x1001, [0x22, 0x11])])
      (fun t => (t.ax, t.ip)) = some (0x1122, 0x0104) ∧
    ran (placed { start with bp := 0x0100, ss := 0x3000, ds := 0x4000 } [0x3E, 0x8B, 0x46, 0x00] [(0x40100, [0x77, 0x66]), (0x30100, [0xAA, 0x55])])
      (fun t => (t.ax, t.ip)) = some (0x6677, 0x0104) := by decide

theorem test_E7 :
    ran (placed { start with cx := 5 } [0xF3, 0xF3, 0x2E, 0x90] [])
      (fun t => (t.cx, t.ip)) = some (5, 0x0104) := by decide

theorem test_E10 :
    ran (placed { start with ds := 0xF000 } [0xA1, 0xFF, 0xFF] [(0xFFFFF, [0x34]), (0x0, [0x12])])
      (fun t => (t.ax, t.ip)) = some (0x1234, 0x0103) := by decide

theorem test_E11 :
    ran (placed { start with ds := 0x1000 } [0xA1, 0xFF, 0xFF] [(0x1FFFF, [0x34, 0x12]), (0x10000, [0x99])])
      (fun t => (t.ax, t.ip)) = some (0x1234, 0x0103) := by decide

theorem test_E13 :
    ran (placed { start with ax := 0x1111, bx := 0x0300 } [0xF0, 0x87, 0x07] [(0x300, [0x22, 0x22])])
      (fun t => (t.ax, t.mem.read .word 0x300, t.ip)) = some (0x2222, 0x1111, 0x0103) := by decide

theorem test_E16 :
    ran (placed { start with ss := 0x0010 } [0xC6, 0x46, 0xFF, 0x7F] [])
      (fun t => (t.mem.byteAt 0x100FF, t.ip)) = some (0x7F, 0x0104) := by decide

theorem test_T1 :
    ran (placed { start with ax := 0x1234 } [0xB4, 0xFF] [])
      (fun t => (t.ax, t.ip)) = some (0xFF34, 0x0102) := by decide

theorem test_T2 :
    ran (placed { start with sp := 0x0100 } [0x54] [])
      (fun t => (t.sp, t.mem.read .word 0xFE, t.ip)) = some (0x00FE, 0x00FE, 0x0101) := by decide

theorem test_T3 :
    ran (placed { start with sp := 0x00FE } [0x5C] [(0xFE, [0x00, 0x30])])
      (fun t => (t.sp, t.ip)) = some (0x3000, 0x0101) := by decide

theorem test_T4 :
    ran (placed { start with ax := 0xBEEF, ss := 0x1000 } [0x50] [])
      (fun t => (t.sp, t.mem.byteAt 0x1FFFE, t.mem.byteAt 0x1FFFF)) = some (0xFFFE, 0xEF, 0xBE) := by decide

theorem test_T5 :
    ran (placed { start with ax := 0x12AB } [0x86, 0xE0] [])
      (fun t => (t.ax, t.ip)) = some (0xAB12, 0x0102) := by decide

theorem test_T6 :
    ran (placed start [0xC5, 0x1E, 0x00, 0x02] [(0x200, [0x78, 0x56, 0x34, 0x12])])
      (fun t => (t.bx, t.ds, t.ip)) = some (0x5678, 0x1234, 0x0104) := by decide

theorem test_T7 :
    ran (placed { start with ax := 0xFF00 } [0x9E] [])
      (fun t => (t.flags, t.ip)) = some (0x00D5, 0x0101) := by decide

theorem test_T8 :
    ran (placed { start with flags := 0x08D7 } [0x9F] [])
      (fun t => (t.ax, t.flags)) = some (0xD700, 0x08D7) := by decide

theorem test_T9 :
    ran (placed { start with sp := 0x0200 } [0x9D] [(0x200, [0xFF, 0xFF])])
      (fun t => (t.sp, t.flags)) = some (0x0202, 0x0FD5) := by decide

theorem test_T10 :
    ran (placed { start with sp := 0x0200, flags := 0xF803 } [0x9C] [])
      (fun t => (t.sp, t.mem.read .word 0x1FE)) = some (0x01FE, 0xF803) := by decide

theorem test_T11 :
    ran (placed { start with bx := 0x0200, ax := 0x1203 } [0xD7] [(0x203, [0x41])])
      (fun t => (t.ax, t.ip)) = some (0x1241, 0x0101) := by decide

theorem test_T12 :
    ran (placed { start with ax := 0x1280 } [0x98] [])
      (fun t => (t.ax, t.ip)) = some (0xFF80, 0x0101) := by decide

theorem test_T13 :
    ran (placed { start with ax := 0x8000, dx := 0x1234 } [0x99] [])
      (fun t => (t.dx, t.ip)) = some (0xFFFF, 0x0101) := by decide

theorem test_T15 :
    ran (placed { start with ax := 0x1234, dx := 0x03F8 } [0xEF] [])
      (fun t => (t.io, t.ip)) = some ([⟨.output, 0x03F8, .word, 0x1234⟩], 0x0101) := by decide

theorem test_T16 :
    ran (placed { start with bx := 0x0300 } [0x89, 0x1F] [])
      (fun t => (t.mem.read .word 0x300, t.ip)) = some (0x0300, 0x0102) := by decide

theorem test_T17 :
    ran (placed { start with bx := 0xFFFE, si := 3 } [0x8D, 0x40, 0x05] [])
      (fun t => (t.ax, t.ip)) = some (0x0006, 0x0103) := by decide

theorem test_T19 :
    ran (placed { start with sp := 0x01FE } [0x8F, 0x06, 0x00, 0x03] [(0x1FE, [0xCD, 0xAB])])
      (fun t => (t.sp, t.mem.read .word 0x300)) = some (0x0200, 0xABCD) := by decide

theorem test_T20 :
    ran (placed { start with sp := 0x0200 } [0xFF, 0x36, 0x00, 0x03] [(0x300, [0xCD, 0xAB])])
      (fun t => (t.sp, t.mem.read .word 0x1FE)) = some (0x01FE, 0xABCD) := by decide

theorem test_T23 :
    ran (placed { start with ax := 0x1234, ds := 0x0020 } [0xA3, 0x00, 0x03] [])
      (fun t => (t.mem.read .word 0x500, t.ip)) = some (0x1234, 0x0103) := by decide

theorem test_T24 :
    ran (placed start [0xC4, 0x3E, 0x00, 0x02] [(0x200, [0x10, 0x00, 0x00, 0xB8])])
      (fun t => (t.di, t.es)) = some (0x0010, 0xB800) := by decide

theorem test_T25 :
    ran (placed { start with ax := 0x1234 } [0x8E, 0xD8] [])
      (fun t => (t.ds, t.ip)) = some (0x1234, 0x0102) := by decide

theorem test_A1 :
    ran (placed { start with ax := 0x00FF, bx := 1 } [0x00, 0xD8] [])
      (fun t => (t.ax, t.flags)) = some (0x0000, 0x0055) := by decide

theorem test_A4 :
    ran (placed { start with ax := 0x00FF, cx := 0x00FF, flags := 1 } [0x10, 0xC8] [])
      (fun t => (t.ax, t.flags)) = some (0x00FF, 0x0095) := by decide

theorem test_A6 :
    ran (placed { start with ax := 0x0080 } [0x2C, 0x01] [])
      (fun t => (t.ax, t.flags)) = some (0x007F, 0x0810) := by decide

theorem test_A7 :
    ran (placed { start with cx := 0x00FF, flags := 1 } [0x18, 0xC8] [])
      (fun t => (t.ax, t.flags)) = some (0x0000, 0x0055) := by decide

theorem test_A8 :
    ran (placed { start with ax := 4 } [0x3C, 0x05] [])
      (fun t => (t.ax, t.flags)) = some (0x0004, 0x0095) := by decide

theorem test_A9 :
    ran (placed { start with ax := 0xFFFF, flags := 1 } [0x40] [])
      (fun t => (t.ax, t.flags)) = some (0x0000, 0x0055) := by decide

theorem test_A11 :
    ran (placed { start with ax := 0x8000 } [0x48] [])
      (fun t => (t.ax, t.flags)) = some (0x7FFF, 0x0814) := by decide

theorem test_A12 :
    ran (placed { start with ax := 0x0080 } [0xF6, 0xD8] [])
      (fun t => (t.ax, t.flags)) = some (0x0080, 0x0881) := by decide

theorem test_A15 :
    ran (placed { start with ax := 0xFFFF, bx := 0xFFFF } [0xF7, 0xE3] [])
      (fun t => (t.dx, t.ax)) = some (0xFFFE, 0x0001) := by decide

theorem test_A16 :
    ran (placed { start with ax := 0x00FE, bx := 3 } [0xF6, 0xEB] [])
      (fun t => (t.ax, t.ip)) = some (0xFFFA, 0x0102) := by decide

theorem test_A18 :
    ran (placed { start with ax := 0xFFFF, bx := 0xFFFF, dx := 0x5555 } [0xF7, 0xEB] [])
      (fun t => (t.ax, t.dx)) = some (0x0001, 0x0000) := by decide

theorem test_A19 :
    ran (placed { start with ax := 0x0064, bx := 7 } [0xF6, 0xF3] [])
      (fun t => (t.ax, t.ip)) = some (0x020E, 0x0102) := by decide

theorem test_A20 :
    ran (placed { start with ax := 0x1234, flags := 0x0845 } [0xF6, 0xF3] [])
      (fun t => (t.ax, t.flags, t.ip, t.run, t.fault)) =
      some (0x1234, 0x0845, 0x0100, .faulted, some ⟨.divideByZero, 0, 0x0100, 0x00100, 0xF6, none⟩) := by decide

theorem test_A23 :
    ran (placed { start with ax := 0xFFF9, bx := 2 } [0xF6, 0xFB] [])
      (fun t => (t.ax, t.ip)) = some (0xFFFD, 0x0102) := by decide

theorem test_A25 :
    ran (placed { start with ax := 0xFF80, bx := 1 } [0xF6, 0xFB] [])
      (fun t => (t.run, t.fault.map FaultRecord.cause)) = some (.faulted, some .divideOverflow) := by decide

theorem test_A29 :
    ran (placed { start with ax := 0x00FA } [0x37] [])
      (fun t => (t.ax, t.ip)) = some (0x0100, 0x0101) := by decide

theorem test_A30 :
    ran (placed { start with ax := 0x009A } [0x27] [])
      (fun t => (t.ax, t.ip)) = some (0x0000, 0x0101) := by decide

theorem test_A32 :
    ran (placed { start with ax := 0x01FF, flags := 0x0011 } [0x3F] [])
      (fun t => (t.ax, t.ip)) = some (0x0009, 0x0101) := by decide

theorem test_A33 :
    ran (placed { start with ax := 0x00EE, flags := 0x0011 } [0x2F] [])
      (fun t => (t.ax, t.ip)) = some (0x0088, 0x0101) := by decide

theorem test_A35 :
    ran (placed { start with ax := 0x003F } [0xD4, 0x00] [])
      (fun t => (t.ax, t.fault.map FaultRecord.cause)) = some (0x003F, some .divideByZero) := by decide

theorem test_A40 :
    ran (placed { start with ax := 0x00AB } [0xD4, 0x10] [])
      (fun t => (t.ax, t.ip)) = some (0x0A0B, 0x0102) := by decide

theorem test_A36 :
    ran (placed { start with ax := 0x0603 } [0xD5, 0x0A] [])
      (fun t => (t.ax, t.ip)) = some (0x003F, 0x0102) := by decide

theorem test_A37 :
    ran (placed { start with ax := 1 } [0x83, 0xC0, 0xFF] [])
      (fun t => (t.ax, t.flags, t.ip)) = some (0x0000, 0x0055, 0x0103) := by decide

theorem test_A38 :
    ran (placed start [0x81, 0x2E, 0x00, 0x03, 0x01, 0x00] [(0x300, [0x00, 0x00])])
      (fun t => (t.mem.read .word 0x300, t.flags, t.ip)) = some (0xFFFF, 0x0095, 0x0106) := by decide

theorem test_A39 :
    ran (placed start [0x80, 0x3E, 0x00, 0x03, 0x80] [(0x300, [0x7F])])
      (fun t => (t.mem.byteAt 0x300, t.flags, t.ip)) = some (0x7F, 0x0885, 0x0105) := by decide

theorem test_A41 :
    ran (placed { start with bx := 0x0300, flags := 1 } [0xFF, 0x0F] [])
      (fun t => (t.mem.read .word 0x300, t.flags)) = some (0xFFFF, 0x0095) := by decide

theorem test_L1 :
    ran (placed { start with ax := 0x00A5, flags := 0x0801 } [0x24, 0x0F] [])
      (fun t => (t.ax, t.ip)) = some (0x0005, 0x0102) := by decide

theorem test_L2 :
    ran (placed { start with ax := 0x1234, flags := 0x0881 } [0x31, 0xC0] [])
      (fun t => (t.ax, t.ip)) = some (0x0000, 0x0102) := by decide

theorem test_L4 :
    ran (placed { start with ax := 0x000F, flags := 0x08D5 } [0xF6, 0xD0] [])
      (fun t => (t.ax, t.flags)) = some (0x00F0, 0x08D5) := by decide

theorem test_L6 :
    ran (placed { start with ax := 0x0081 } [0xD0, 0xE8] [])
      (fun t => (t.ax, t.ip)) = some (0x0040, 0x0102) := by decide

theorem test_L8 :
    ran (placed { start with ax := 0x0081 } [0xD0, 0xC0] [])
      (fun t => (t.ax, t.flags)) = some (0x0003, 0x0801) := by decide

theorem test_L9 :
    ran (placed { start with ax := 0x0081 } [0xD0, 0xC8] [])
      (fun t => (t.ax, t.flags)) = some (0x00C0, 0x0001) := by decide

theorem test_L10 :
    ran (placed { start with ax := 0x0081 } [0xD0, 0xD0] [])
      (fun t => (t.ax, t.flags)) = some (0x0002, 0x0801) := by decide

theorem test_L11 :
    ran (placed { start with ax := 0x0081 } [0xD0, 0xD8] [])
      (fun t => (t.ax, t.flags)) = some (0x0040, 0x0801) := by decide

theorem test_L12 :
    ran (placed { start with ax := 0x0081, flags := 0x08D5 } [0xD2, 0xE0] [])
      (fun t => (t.ax, t.flags, t.ip)) = some (0x0081, 0x08D5, 0x0102) := by decide

theorem test_L7 :
    ran (placed { start with ax := 0x0081 } [0xD0, 0xF8] [])
      (fun t => (t.ax, t.ip)) = some (0x00C0, 0x0102) := by decide

theorem test_L20 :
    ran (placed { start with ax := 1, cx := 0x0020 } [0xD3, 0xE0] [])
      (fun t => (t.ax, t.ip)) = some (0x0000, 0x0102) := by decide

theorem test_L22 :
    ran (placed { start with ax := 0x8000 } [0x09, 0xC0] [])
      (fun t => (t.ax, t.ip)) = some (0x8000, 0x0102) := by decide

theorem test_S2 :
    ran (placed { start with si := 0x0200, di := 0x0202, cx := 3 } [0xF3, 0xA5] [(0x200, [0x11, 0x11, 0x22, 0x22, 0x33, 0x33, 0x44, 0x44])])
      (fun t => (t.mem.read .word 0x202, t.mem.read .word 0x206, t.cx, t.si)) =
      some (0x1111, 0x1111, 0, 0x0206) := by decide

theorem test_S3 :
    ran (placed { start with si := 0x0200, di := 0x0300, cx := 5 } [0xF3, 0xA6] [(0x200, [0x61, 0x62, 0x63, 0x64, 0x65]), (0x300, [0x61, 0x62, 0x78, 0x64, 0x65])])
      (fun t => (t.cx, t.si, t.flags)) = some (2, 0x0203, 0x0095) := by decide

theorem test_S4 :
    ran (placed { start with di := 0x0300, cx := 0x0010 } [0xF2, 0xAE] [(0x300, [0x68, 0x69, 0x21, 0x00, 0x7A])])
      (fun t => (t.cx, t.di, t.flags)) = some (0x000C, 0x0304, 0x0044) := by decide

theorem test_S5 :
    ran (placed { start with flags := 0x0040 } [0xF3, 0xAA] [])
      (fun t => (t.di, t.flags, t.ip)) = some (0, 0x0040, 0x0102) := by decide

theorem test_S6 :
    ran (placed { start with si := 0x0200, flags := 0x0400 } [0xAD] [(0x200, [0x34, 0x12])])
      (fun t => (t.ax, t.si)) = some (0x1234, 0x01FE) := by decide

theorem test_S7 :
    ran (placed { start with si := 0x0010, di := 0x0020, es := 0x1000, ds := 0x2000 } [0x26, 0xA4] [(0x10010, [0x5A]), (0x20010, [0x77])])
      (fun t => (t.mem.byteAt 0x10020, t.si, t.di)) = some (0x5A, 0x0011, 0x0021) := by decide

theorem test_S8 :
    ran (placed { start with di := 0xFFFE, cx := 2, ax := 0xBEEF, es := 0x1000 } [0xF3, 0xAB] [])
      (fun t => (t.mem.read .word 0x1FFFE, t.mem.read .word 0x10000, t.di)) =
      some (0xBEEF, 0xBEEF, 0x0002) := by decide

theorem test_S11 :
    ran (placed { start with ax := 0x1000, di := 0x0300 } [0xAF] [(0x300, [0x01, 0x10])])
      (fun t => (t.flags, t.di)) = some (0x0095, 0x0302) := by decide

theorem test_C1 :
    ran (placed { start with sp := 0x0200 } [0xE8, 0x10, 0x00] [])
      (fun t => (t.sp, t.mem.read .word 0x1FE, t.ip)) = some (0x01FE, 0x0103, 0x0113) := by decide

theorem test_C3 :
    ran (placed { start with ip := 0x0010, flags := 0x0040 } [0x74, 0xFE] [])
      (fun t => t.ip) = some 0x0010 := by decide

theorem test_C6 :
    ran (placed { start with flags := 0x0880 } [0x7C, 0x10] [])
      (fun t => t.ip) = some 0x0102 := by decide

theorem test_C25 :
    ran (placed { start with flags := 0x0041 } [0x77, 0x05] [])
      (fun t => t.ip) = some 0x0102 := by decide

theorem test_C26 :
    ran (placed { start with flags := 0x0800 } [0x7E, 0x05] [])
      (fun t => t.ip) = some 0x0107 := by decide

theorem test_C7 :
    ran (placed start [0xE2, 0xFE] [])
      (fun t => (t.cx, t.ip)) = some (0xFFFF, 0x0100) := by decide

theorem test_C9 :
    ran (placed { start with cx := 5 } [0xE1, 0x10] [])
      (fun t => (t.cx, t.ip)) = some (0x0004, 0x0102) := by decide

theorem test_C10 :
    ran (placed { start with cx := 5 } [0xE0, 0x10] [])
      (fun t => (t.cx, t.ip)) = some (0x0004, 0x0112) := by decide

theorem test_C11 :
    ran (placed { start with ip := 0x0020 } [0xE3, 0x10] [])
      (fun t => (t.cx, t.ip)) = some (0, 0x0032) := by decide

theorem test_C12 :
    ran (placed { start with ip := 0x0200, sp := 0x0100, flags := 0x0201 } [0xCD, 0x21] [(0x84, [0x00, 0x10, 0x00, 0x20])])
      (fun t => (t.sp, t.cs, t.ip, t.flags, t.mem.read .word 0xFA, t.mem.read .word 0xFE)) =
      some (0x00FA, 0x2000, 0x1000, 0x0001, 0x0202, 0x0201) := by decide

theorem test_C13 :
    ran (placed { start with cs := 0x2000, ip := 0x1000, sp := 0x00FA } [0xCF] [(0xFA, [0x02, 0x02, 0x00, 0x00, 0x01, 0xF2])])
      (fun t => (t.cs, t.ip, t.flags, t.sp)) = some (0, 0x0202, 0x0201, 0x0100) := by decide

theorem test_C14 :
    ran (placed start [0xCE] [])
      (fun t => (t.sp, t.ip)) = some (0, 0x0101) := by decide

theorem test_C15 :
    ran (placed { start with flags := 0x0B00, sp := 0x0100 } [0xCE] [(0x10, [0x00, 0x05, 0x00, 0x00])])
      (fun t => (t.sp, t.ip, t.flags, t.mem.read .word 0xFE)) = some (0x00FA, 0x0500, 0x0800, 0x0B00) := by decide

theorem test_C16 :
    ran (placed { start with cs := 0x1000, ip := 0x0010, sp := 0x0100 } [0x9A, 0x00, 0x02, 0x00, 0x30] [])
      (fun t => (t.cs, t.ip, t.sp, t.mem.read .word 0xFC, t.mem.read .word 0xFE)) =
      some (0x3000, 0x0200, 0x00FC, 0x0015, 0x1000) := by decide

theorem test_C17 :
    ran (placed { start with cs := 0x3000, sp := 0x00FC } [0xCB] [(0xFC, [0x15, 0x00, 0x00, 0x10])])
      (fun t => (t.cs, t.ip, t.sp)) = some (0x1000, 0x0015, 0x0100) := by decide

theorem test_C19 :
    ran (placed { start with sp := 0x01FE } [0xC2, 0x04, 0x00] [(0x1FE, [0x03, 0x01])])
      (fun t => (t.ip, t.sp)) = some (0x0103, 0x0204) := by decide

theorem test_C21 :
    ran (placed start [0xEB, 0x80] [])
      (fun t => t.ip) = some 0x0082 := by decide

theorem test_C22 :
    ran (placed { start with sp := 0x0200 } [0xFF, 0xD4] [])
      (fun t => (t.ip, t.sp, t.mem.read .word 0x1FE)) = some (0x0200, 0x01FE, 0x0102) := by decide

theorem test_C23 :
    ran (placed { start with sp := 0x0100 } [0xFF, 0x1E, 0x00, 0x03] [(0x300, [0x00, 0x02, 0x00, 0x30])])
      (fun t => (t.cs, t.ip, t.sp, t.mem.read .word 0xFC)) = some (0x3000, 0x0200, 0x00FC, 0x0104) := by decide

theorem test_C24 :
    ran (placed start [0xEA, 0x00, 0x00, 0xFF, 0xFF] [])
      (fun t => (t.cs, t.ip)) = some (0xFFFF, 0) := by decide

theorem test_C27 :
    ran (placed { start with sp := 0x0100, flags := 0x0300 } [0xCC] [(0xC, [0x34, 0x12, 0x78, 0x56])])
      (fun t => (t.cs, t.ip, t.flags, t.sp)) = some (0x5678, 0x1234, 0, 0x00FA) := by decide

theorem test_C28 :
    ran (placed { start with ip := 0xFFFE, sp := 0x0200 } [0xE8, 0x00, 0xFF] [])
      (fun t => (t.ip, t.sp, t.mem.read .word 0x1FE)) = some (0xFF01, 0x01FE, 0x0001) := by decide

theorem test_C29 :
    ran (placed { start with bx := 0x0300 } [0xFF, 0x2F] [(0x300, [0x00, 0x02, 0x00, 0x30])])
      (fun t => (t.cs, t.ip)) = some (0x3000, 0x0200) := by decide

theorem test_C30 :
    ran (placed { start with cs := 0x3000, sp := 0x00FC } [0xCA, 0x02, 0x00] [(0xFC, [0x15, 0x00, 0x00, 0x10])])
      (fun t => (t.cs, t.ip, t.sp)) = some (0x1000, 0x0015, 0x0102) := by decide

theorem test_P1 :
    ran (placed { start with ip := 0, flags := 0xFFFF } [0xF8] [])
      (fun t => (t.flags, t.ip)) = some (0xFFFE, 1) := by decide

theorem test_P3 :
    ran (placed { start with flags := 1 } [0xF5] [])
      (fun t => (t.flags, t.ip)) = some (0, 0x0101) := by decide

theorem test_P4 :
    ran (placed start [0xFD] [])
      (fun t => (t.flags, t.ip)) = some (0x0400, 0x0101) := by decide

theorem test_P6 :
    ran (placed start [0xFB] [])
      (fun t => (t.flags, t.ip)) = some (0x0200, 0x0101) := by decide

theorem test_P7 :
    ran (placed { start with flags := 0xFFFF } [0xFA] [])
      (fun t => (t.flags, t.ip)) = some (0xFDFF, 0x0101) := by decide

theorem test_P10 :
    ran (placed start [0xD9, 0x06, 0x00, 0x01] [])
      (fun t => (t.ip, t.run)) = some (0x0104, .running) := by decide

theorem test_P13 :
    ran (placed { start with ip := 0 } [0x0F] [])
      (fun t => (t.ip, t.run, t.fault)) = some (0, .faulted, some ⟨.unknownOpcode, 0, 0, 0, 0x0F, none⟩) := by decide

theorem test_P14 :
    ran (placed start [0xF3, 0xF4] [])
      (fun t => (t.ip, t.run)) = some (0x0102, .halted) := by decide

theorem test_E5 :
    ran (placed start [0xFF, 0xFF] [])
      (fun t => (t.ip, t.fault)) =
      some (0x0100, some ⟨.unresolvableModRM, 0, 0x0100, 0x00100, 0xFF, some 0xFF⟩) := by decide

theorem test_E17 :
    ran (placed start [0x26, 0xF1] [])
      (fun t => (t.ip, t.fault)) = some (0x0100, some ⟨.unknownOpcode, 0, 0x0100, 0x00100, 0xF1, none⟩) := by decide

/-! ## Witnesses: the hypotheses of each statement, met by concrete states and operands -/

/-- A state with canonical memory, a byte of code and data around SS:SP = 0:0100. -/
def sample : State := placed { start with sp := 0x0100, cx := 3 } [0x90] [(0x00FE, [1, 2, 3, 4])]

theorem witness_DecodeOfEncode :
    (Instr.movRmReg .toReg .word .r1 (.mem .bp (.d8 0xFE))).operandsOk = true ∧
    (Instr.callFarRm (.direct 0x0300)).operandsOk = true ∧ (Instr.rep (.movs .word)).operandsOk = true := by decide

theorem witness_EncodeOfDecode : ∃ rest i, decode [0x01, 0xD8, 0x90] = .ok (i, rest) := ⟨_, _, rfl⟩

theorem prefixesAt_nil (s : State) : PrefixesAt s [] := by
  intro k p h
  simp at h

theorem prefixesAt_two (s : State) (p q : Prefix) (h0 : s.mem.byteAt (phys s.cs s.ip) = p.byte)
    (h1 : s.mem.byteAt (phys s.cs s.ip + 1) = q.byte) : PrefixesAt s [p, q] := by
  intro k r h
  match k, h with
  | 0, h =>
    obtain rfl : p = r := by simpa using h
    simpa using h0
  | 1, h =>
    obtain rfl : q = r := by simpa using h
    exact h1
  | k + 2, h => simp at h

theorem witness_UnknownOpcodeFaults :
    ∃ s : State, s.run = .running ∧ PrefixesAt s [.lock, .rep] ∧
      s.mem.byteAt (phys s.cs s.ip + BitVec.ofNat 20 [Prefix.lock, .rep].length) = 0xF1 ∧ 0xF1 ∈ absentOpcodes :=
  ⟨placed start [0xF0, 0xF3, 0xF1] [], rfl, prefixesAt_two _ _ _ rfl rfl, rfl, by decide⟩

theorem witness_UnknownOpcodeFaults_decode : decode [0x0F] = .error (.unknownOpcode 0x0F) := rfl

theorem witness_UnresolvableModRMFaults :
    ∃ s : State, s.run = .running ∧ PrefixesAt s [] ∧
      s.mem.byteAt (phys s.cs s.ip + BitVec.ofNat 20 ([] : List Prefix).length) = 0xFF ∧
      s.mem.byteAt (phys s.cs s.ip + BitVec.ofNat 20 (([] : List Prefix).length + 1)) = 0xD8 ∧ Unresolvable 0xFF 0xD8 :=
  ⟨placed start [0xFF, 0xD8] [], rfl, prefixesAt_nil _, rfl, rfl, by unfold Unresolvable; dsimp only; decide⟩

/-- Each clause of R127 at the bound of its range, and a neighbour that is legal. -/
theorem witness_Unresolvable_clauses :
    Unresolvable 0xD3 0xF0 ∧ Unresolvable 0xF6 0xC8 ∧ Unresolvable 0xFE 0xD0 ∧ Unresolvable 0xFF 0xF8 ∧
    Unresolvable 0x8F 0xC8 ∧ Unresolvable 0xC7 0x08 ∧ Unresolvable 0x8C 0x20 ∧ Unresolvable 0x8D 0xC0 ∧
    Unresolvable 0xFF 0xD8 ∧ Unresolvable 0xFF 0xE8 ∧ ¬ Unresolvable 0xFE 0xC8 ∧ ¬ Unresolvable 0x8C 0x18 ∧
    ¬ Unresolvable 0x8D 0xBF ∧ ¬ Unresolvable 0xFF 0x98 := by
  and_intros <;> (unfold Unresolvable; dsimp only; decide)

theorem witness_StepRunsDecodedInstruction :
    ∃ s : State, (Instr.lock .nop).wf = true ∧ s.run = .running ∧
      ∀ k b, (encode (.lock .nop))[k]? = some b → s.mem.byteAt (phys s.cs s.ip + BitVec.ofNat 20 k) = b := by
  refine ⟨placed start [0xF0, 0x90] [], by decide, rfl, fun k b h => ?_⟩
  match k, h with
  | 0, h =>
    obtain rfl : (0xF0 : Byte) = b := by simpa [encode] using h
    rfl
  | 1, h =>
    obtain rfl : (0x90 : Byte) = b := by simpa [encode] using h
    rfl
  | k + 2, h => simp [encode] at h

theorem witness_StepRunsDecodedInstruction_stopped : ({ start with run := .halted } : State).run ≠ .running := by decide

theorem get_of_range (n k a : Nat) (v : Byte) (h1 : k ≤ a) (h2 : a < k + n) :
    Memory.get ((List.range' k n).map fun x => (x, v)) a = v := by
  induction n generalizing k with
  | zero => omega
  | succ n ih =>
    rw [List.range'_succ, List.map_cons, Memory.get]
    split
    · rfl
    · exact ih (k + 1) (by omega) (by omega)

/-- A Running state in which every byte of memory is a prefix byte (R103). -/
theorem witness_StepHangsOnlyOnPrefixMemory :
    ∃ s : State, s.run = .running ∧ ∀ a, s.mem.byteAt a ∈ [0x26, 0x2E, 0x36, 0x3E, 0xF0, 0xF2, (0xF3 : Byte)] := by
  refine ⟨{ start with mem := (List.range' 0 0x100000).map fun x => (x, 0x26) }, rfl, fun a => ?_⟩
  rw [show Memory.byteAt _ a = 0x26 from get_of_range 0x100000 0 a.toNat 0x26 (Nat.zero_le _) (by omega)]
  decide

theorem witness_StepKeepsInvariant : sample.Inv ∧ ∃ t, step sample = .next t :=
  ⟨⟨by decide, by decide, by intro r h; cases h⟩, _, rfl⟩

/-- The invariant is met by a Faulted state too. -/
theorem witness_StepKeepsInvariant_faulted : (faulted sample .divideByZero 0xF6 none).Inv :=
  ⟨by decide, by decide, by intro r h; cases h; exact ⟨rfl, rfl, rfl⟩⟩

theorem witness_ResetHasInvariant : sample.mem.wf = true ∧ sample.mem ≠ [] := by decide

theorem witness_LoadWritesTheBytes :
    [(0xF8 : Byte), 0xF4].length ≤ 0x100000 ∧ [(0xF8 : Byte), 0xF4][1]? = some 0xF4 ∧
    ∀ k, k < [(0xF8 : Byte), 0xF4].length → (0x00001 : PAddr) ≠ 0xFFFFF + BitVec.ofNat 20 k := by decide

theorem witness_RunEndsAtTerminalStates :
    ({ start with run := .halted } : State).run = .halted ∧ ({ start with run := .faulted } : State).run = .faulted ∧
    sample.run = .running ∧ (∃ t, step sample = .next t) ∧
    (∃ t, run [false, false] (placed start [0xF4] []) = .halted t) ∧
    ∃ t, run [false, false] (placed start [0x0F] []) = .faulted t :=
  ⟨rfl, rfl, rfl, ⟨_, rfl⟩, ⟨_, rfl⟩, ⟨_, rfl⟩⟩

theorem witness_ReservedFlagBitsKept :
    15 ∈ [1, 3, 5, 12, 13, 14, 15] ∧ (∃ t, exec .popf sample = .next t) ∧ ∃ t, step sample = .next t :=
  ⟨by decide, ⟨_, rfl⟩, ⟨_, rfl⟩⟩

theorem witness_FlagFrame :
    (∃ t, exec (.incReg .r0) sample = .next t) ∧ 0 ∉ flagBits sample (Instr.incReg .r0).body :=
  ⟨⟨_, rfl⟩, by decide⟩

theorem witness_RegisterFrame :
    (∃ t, exec (.addRmReg .toRM .byte .r3 (.reg .r0)) sample = .next t) ∧
    RegPart.half .r4 ∉ written (Instr.addRmReg .toRM .byte .r3 (.reg .r0)).body :=
  ⟨⟨_, rfl⟩, by decide⟩

theorem witness_MemoryFrame :
    (Instr.movRmReg .toRM .word .r0 (.mem .bx .none)).prefixes = [] ∧
    (∃ t, exec ((Instr.movRmReg .toRM .word .r0 (.mem .bx .none)).withPrefixes [.seg .es]) sample = .next t) ∧
    0x00002 ∉ stored [.seg .es] sample (.movRmReg .toRM .word .r0 (.mem .bx .none)) :=
  ⟨rfl, ⟨_, rfl⟩, by decide⟩

theorem witness_PortFrame :
    (∃ t, exec (.outDx .word) sample = .next t) ∧ usesPorts (Instr.outDx .word).body = true ∧
    (∃ t, exec .nop sample = .next t) ∧ usesPorts Instr.nop.body = false :=
  ⟨⟨_, rfl⟩, rfl, ⟨_, rfl⟩, rfl⟩

theorem witness_IpAdvance :
    ∃ t, exec (.lock .hlt) sample = .next t ∧ sample.run = .running ∧ t.run ≠ .faulted ∧
      transfers (Instr.lock .hlt).body = false ∧ RegPart.seg .cs ∉ written (Instr.lock .hlt).body :=
  ⟨_, rfl, rfl, by decide, rfl, by decide⟩

theorem witness_RunStateTransitions :
    (∃ t, exec .hlt sample = .next t ∧ sample.run = .running ∧ t.run = .halted) ∧
    (∃ t, exec (.aam 0) sample = .next t ∧ t.run = .faulted) ∧ ∃ t, exec .nop sample = .next t ∧ t.run ≠ .faulted :=
  ⟨⟨_, rfl, rfl, rfl⟩, ⟨_, rfl, rfl⟩, ⟨_, rfl, by decide⟩⟩

theorem witness_FaultsArePrecise :
    ∃ s t : State, step s = .next t ∧ s.run = .running ∧ t.run = .faulted :=
  ⟨placed start [0x26, 0xFF, 0xFF] [], _, rfl, rfl, rfl⟩

theorem witness_ControlFlagsGateNothing :
    readsControlFlags sample Instr.popf.body = false ∧ readsControlFlags sample Instr.into.body = false ∧
    (∀ b, b ≠ 8 → b ≠ 9 → (0x0300 : Word).getLsbD b = sample.flags.getLsbD b) ∧ ∃ t, exec .popf sample = .next t := by
  refine ⟨rfl, by decide, fun b h8 h9 => ?_, _, rfl⟩
  rw [show sample.flags = 0 by decide]
  by_cases hb : b < 16
  · have : ∀ b : Fin 16, b.val ≠ 8 → b.val ≠ 9 → (0x0300 : Word).getLsbD b.val = (0 : Word).getLsbD b.val := by decide
    exact this ⟨b, hb⟩ h8 h9
  · rw [BitVec.getLsbD_of_ge _ _ (by omega), BitVec.getLsbD_of_ge _ _ (by omega)]

theorem witness_FlagAccess : Flag.of ≠ Flag.cf ∧ 1 ≠ Flag.cf.bit := by decide

theorem witness_OperandAddress :
    place [.seg .es] (.mem .bpsi (.d8 0x80)) sample = .mem 0 0xFF80 ∧ place [] (.direct 0xFFFF) sample = .mem 0 0xFFFF := by
  decide

/-- Order, repetition and LOCK differ, the last override and the last repeat prefix agree. -/
theorem witness_PrefixesActThroughTheLast :
    (Instr.movs .byte).prefixes = [] ∧
    lastRepeat [.repne, .rep, .seg .es] = lastRepeat [.seg .es, .lock, .rep] ∧
    lastSegment [.repne, .rep, .seg .es] = lastSegment [.seg .es, .lock, .rep] ∧
    isString (.movs .byte) = true ∧ overridable (.movs .byte) = true ∧
    isString .nop = false ∧ overridable .nop = false := by decide

theorem witness_IneffectivePrefixAddsItsLength :
    ∃ t, exec (.lock .nop) sample = .next t ∧ sample.run = .running ∧ t.run ≠ .faulted ∧
      transfers (Instr.lock .nop).body = false ∧ isString (Instr.lock .nop).body = false ∧
      overridable (Instr.lock .nop).body = false :=
  ⟨_, rfl, rfl, by decide, rfl, rfl, rfl⟩

theorem witness_PrefixRowsComplete : start.cx = 0 := rfl

theorem witness_PushPopResults : RegNum.r0 ≠ .r4 ∧ RM.reg .r0 ≠ .reg .r4 ∧ RM.direct 4 ≠ .reg .r4 := by decide

theorem witness_AddressLoadResults : place [.seg .cs] (.mem .bx (.d8 0xFF)) sample = .mem 0 0xFFFF := by decide

/-- DIV at both ends of each clause: the largest quotient that fits, the smallest that does not, and divisor 0. -/
theorem witness_DivResults :
    (let s : State := { start with ax := 0x00FF, bx := 0x0001 };
      (s.readLoc .byte (place [] (.reg .r3) s)).toNat = 1 ∧ s.ax.toNat / 1 = 0xFF) ∧
    (let s : State := { start with ax := 0x0100, bx := 0x0001 };
      (s.readLoc .byte (place [] (.reg .r3) s)).toNat = 1 ∧ s.ax.toNat / 1 = 0x100) ∧
    (start.readLoc .byte (place [] (.reg .r3) start)).toNat = 0 ∧
    (let s : State := { start with dx := 0x0000, ax := 0xFFFF, bx := 0x0001 };
      (s.readLoc .word (place [] (.reg .r3) s)).toNat = 1 ∧ (s.dx.toNat * 0x10000 + s.ax.toNat) / 1 = 0xFFFF) ∧
    (let s : State := { start with dx := 0x0001, ax := 0x0000, bx := 0x0001 };
      (s.readLoc .word (place [] (.reg .r3) s)).toNat = 1 ∧ (s.dx.toNat * 0x10000 + s.ax.toNat) / 1 = 0x10000) ∧
    (start.readLoc .word (place [] (.reg .r3) start)).toNat = 0 := by decide

/-- IDIV at both ends of each clause; the divisor is CL, then CX, and the quotient and remainder divide the dividend. -/
theorem witness_IdivResults :
    (start.readLoc .byte (place [] (.reg .r1) start)).toInt = 0 ∧
    (start.readLoc .word (place [] (.reg .r1) start)).toInt = 0 ∧
    (let s : State := { start with ax := 0xFF81, cx := 1 };
      (s.readLoc .byte (place [] (.reg .r1) s)).toInt = 1 ∧ s.ax.toInt = -127 * 1 + 0) ∧
    (let s : State := { start with ax := 0xFF80, cx := 1 };
      (s.readLoc .byte (place [] (.reg .r1) s)).toInt = 1 ∧ s.ax.toInt = -128 * 1 + 0) ∧
    (let s : State := { start with dx := 0xFFFF, ax := 0x8001, cx := 1 };
      (s.readLoc .word (place [] (.reg .r1) s)).toInt = 1 ∧ (s.dx ++ s.ax).toInt = -32767 * 1 + 0) ∧
    (let s : State := { start with dx := 0xFFFF, ax := 0x8000, cx := 1 };
      (s.readLoc .word (place [] (.reg .r1) s)).toInt = 1 ∧ (s.dx ++ s.ax).toInt = -32768 * 1 + 0) := by decide

theorem witness_AamAadResults : (0x0A : Byte).toNat ≠ 0 ∧ (0x00 : Byte).toNat = 0 := by decide

theorem witness_Shifts :
    shiftCountOf .one sample = 1 ∧ shiftCountOf .cl start = 0 ∧ shiftCountOf .cl { start with cx := 0x01FF } = 255 := by
  decide

theorem witness_Strings :
    lastRepeat [.seg .es, .lock] = none ∧ lastRepeat [.rep, .repne] = some false ∧ lastRepeat [.rep] = some true := by
  decide

theorem witness_FarTransfers : place [] (.direct 0x0300) sample = .mem 0 0x0300 := by decide

/-- Each predicate of the conditional jumps and of the loops holds in one state and fails in another. -/
theorem witness_Jumps :
    (start.flags.getLsbD 0 = false ∧ start.flags.getLsbD 6 = false ∧ start.flags.getLsbD 11 = false) ∧
    (let s : State := { start with flags := 0x08D5, cx := 1 };
      s.flags.getLsbD 0 = true ∧ s.flags.getLsbD 2 = true ∧ s.flags.getLsbD 6 = true ∧ s.flags.getLsbD 7 = true ∧
      s.flags.getLsbD 11 = true ∧ ¬ s.cx ≠ 1) ∧
    (({ start with flags := 0x0080 } : State).flags.getLsbD 7 ≠ ({ start with flags := 0x0080 } : State).flags.getLsbD 11) ∧
    sample.cx ≠ 1 ∧ start.cx = 0 := by decide

theorem witness_InterruptResults :
    ({ start with flags := 0x0800 } : State).flags.getLsbD 11 = true ∧ start.flags.getLsbD 11 = false := by decide

theorem witness_IretResults : ∃ t, exec (.intImm 0x21) sample = .next t := ⟨_, rfl⟩

end Sys2Proof.Tests
end

section
/-! ## Frames: what a state operation leaves alone

`Frame ps bs s t` says that `t` differs from `s` at most in the register parts `ps`, the FLAGS bits `bs` and memory,
I/O and draws. Each shared operation has one rule below; the rules chain along the operations a meaning composes. -/

namespace Sys2Proof.Claims

open Sys2Proof Sys2Proof.Machine

/-! ### Register parts after an update -/

/-- A register part does not see IP, FLAGS, the run state, the record, memory, the I/O history and the draws. -/
theorem RegPart.get_update (p : RegPart) (s : State) (ip flags : Word) (run : RunState) (fault : Option FaultRecord)
    (mem : Memory) (io : List IoEvent) (draws : Nat) :
    p.get { s with ip := ip, flags := flags, run := run, fault := fault, mem := mem, io := io, draws := draws } =
      p.get s := by
  cases p with
  | half r => cases r <;> rfl
  | seg r => cases r <;> rfl
  | _ => rfl

/-- A byte register write reaches its own half only (R23). -/
theorem RegPart.get_setReg8 {p : RegPart} {r : RegNum} (s : State) (v : Byte) (h : p ≠ .half r) :
    p.get (s.setReg8 r v) = p.get s := by
  cases p with
  | half q =>
    have hq : q ≠ r := fun e => h (congrArg _ e)
    simp only [RegPart.get, State.reg8_setReg8, if_neg hq]
  | seg q => cases q <;> simp [RegPart.get, State.sreg]
  | _ => simp [RegPart.get]

/-- A word register write reaches its own parts only (R22, R23). -/
theorem RegPart.get_setReg16 {p : RegPart} {r : RegNum} (s : State) (v : Word) (h : p ∉ regParts .word r) :
    p.get (s.setReg16 r v) = p.get s := by
  cases p with
  | half q => revert h; cases r <;> cases q <;> simp [regParts, RegPart.get, State.reg8, State.setReg16]
  | seg q => cases q <;> simp [RegPart.get, State.sreg]
  | _ => revert h; cases r <;> simp [regParts, RegPart.get, State.setReg16]

/-- A segment register write reaches that register only (R29). -/
theorem RegPart.get_setSreg {p : RegPart} {r : SReg} (s : State) (v : Word) (h : p ≠ .seg r) :
    p.get (s.setSreg r v) = p.get s := by
  cases p with
  | half q => simp [RegPart.get]
  | seg q =>
    have hq : q ≠ r := fun e => h (congrArg _ e)
    simp only [RegPart.get, State.sreg_setSreg, if_neg hq]
  | _ => simp [RegPart.get]

end Sys2Proof.Claims

namespace Sys2Proof.Machine

open Sys2Proof Sys2Proof.Claims

/-! ### FLAGS bits after an update -/

/-- Every bit outside `bs` is as before. -/
structure FlagsKept (bs : List Nat) (old new : Word) : Prop where
  bit : ∀ b, b ∉ bs → new.getLsbD b = old.getLsbD b

variable {ps : List RegPart} {bs : List Nat} {old new : Word}

theorem FlagsKept.refl : FlagsKept bs old old := ⟨fun _ _ => rfl⟩

theorem FlagsKept.trans {fl : Word} (h : FlagsKept bs old new) (h' : FlagsKept bs new fl) : FlagsKept bs old fl :=
  ⟨fun b hb => (h'.bit b hb).trans (h.bit b hb)⟩

theorem FlagsKept.mono {cs : List Nat} (h : FlagsKept bs old new) (hs : bs ⊆ cs) : FlagsKept cs old new :=
  ⟨fun b hb => h.bit b fun hm => hb (hs hm)⟩

theorem flagsKept_setFlag {f : Flag} (fl : Word) (v : Bool) (hf : f.bit ∈ bs) : FlagsKept bs fl (setFlag fl f v) where
  bit b hb := by
    rw [getLsbD_setFlag, if_neg]
    rintro rfl
    exact hb hf

theorem flagsKept_undefFlags {fs : List Flag} (free fl : Word) (hf : fs.map Flag.bit ⊆ bs) :
    FlagsKept bs fl (undefFlags free fs fl) where
  bit b hb := by rw [getLsbD_undefFlags, if_neg fun hm => hb (hf hm)]

/-- The bits of the six status flags (R33). -/
def statusBits : List Nat := [11, 7, 6, 4, 2, 0]

theorem not_mem_statusBits {b : Nat} (h : b ∉ statusBits) : b ≠ 11 ∧ b ≠ 7 ∧ b ≠ 6 ∧ b ≠ 4 ∧ b ≠ 2 ∧ b ≠ 0 := by
  simpa [statusBits] using h

theorem flagsKept_addFlags {n : Nat} (x y : BitVec n) (c : Bool) (fl : Word) :
    FlagsKept statusBits fl (addFlags x y c fl) where
  bit b hb := by simp only [getLsbD_addFlags, not_mem_statusBits hb, if_false]

theorem flagsKept_subFlags {n : Nat} (x y : BitVec n) (c : Bool) (fl : Word) :
    FlagsKept statusBits fl (subFlags x y c fl) where
  bit b hb := by simp only [getLsbD_subFlags, not_mem_statusBits hb, if_false]

theorem flagsKept_logicFlags {n : Nat} (r : BitVec n) (fl : Word) :
    FlagsKept statusBits fl (logicFlags r fl) where
  bit b hb := by simp only [getLsbD_logicFlags, not_mem_statusBits hb, if_false]

theorem flagsKept_setSZP {n : Nat} (r : BitVec n) (fl : Word) : FlagsKept statusBits fl (setSZP r fl) where
  bit b hb := by simp only [getLsbD_setSZP, not_mem_statusBits hb, if_false]

/-- The bits of a shift or a rotate of count at least 1 (R33). -/
def shiftBits (op : ShiftOp) : List Nat := if op.isShift then statusBits else [11, 0]

theorem flagsKept_shiftFlags {n : Nat} (op : ShiftOp) (c : Nat) (x : BitVec n) (y : Bool × BitVec n) (fl : Word) :
    FlagsKept (shiftBits op) fl (op.flags c x y fl) where
  bit b hb := by
    cases hs : op.isShift <;> simp_all [-BitVec.getLsbD_eq_getElem, shiftBits, statusBits, getLsbD_shiftFlags]

theorem undefined_subset_shiftBits (op : ShiftOp) (c : Nat) : (op.undefined c).map Flag.bit ⊆ shiftBits op := by
  cases hs : op.isShift <;> by_cases hc : c = 1 <;>
    simp [shiftBits, statusBits, ShiftOp.undefined, Flag.bit, hs, hc]

/-- The nine defined bits of FLAGS (R30). -/
def definedBits : List Nat := [11, 10, 9, 8, 7, 6, 4, 2, 0]

/-- A masked load of FLAGS reaches the bits of its mask only. -/
theorem flagsKept_loadFlags {mask : Word} (v fl : Word) (hm : ∀ b : Fin 16, mask.getLsbD b = true → b.val ∈ bs) :
    FlagsKept bs fl (loadFlags mask v fl) where
  bit b hb := by
    rw [getLsbD_loadFlags, if_neg]
    intro h
    exact hb (hm ⟨b, BitVec.lt_of_getLsbD h⟩ h)

/-! ### The frame and its rules -/

/-- From `s` to `t` only the register parts `ps`, the FLAGS bits `bs`, memory, the I/O history and the draws may change,
and memory stays canonical. -/
structure Frame (ps : List RegPart) (bs : List Nat) (s t : State) : Prop where
  reg : ∀ p, p ∉ ps → p.get t = p.get s
  flag : FlagsKept bs s.flags t.flags
  ip : t.ip = s.ip
  run : t.run = s.run
  fault : t.fault = s.fault
  mem_wf : s.mem.wf = true → t.mem.wf = true

namespace Frame

variable {s t : State}

theorem refl : Frame ps bs s s := ⟨fun _ _ => rfl, .refl, rfl, rfl, rfl, id⟩

theorem setReg8 {r : RegNum} {v : Byte} (h : Frame ps bs s t) (hr : .half r ∈ ps) :
    Frame ps bs s (t.setReg8 r v) where
  reg p hp := (RegPart.get_setReg8 t v (by rintro rfl; exact hp hr)).trans (h.reg p hp)
  flag := by simpa using h.flag
  ip := by simpa using h.ip
  run := by simpa using h.run
  fault := by simpa using h.fault
  mem_wf := by simpa using h.mem_wf

theorem setReg16 {r : RegNum} {v : Word} (h : Frame ps bs s t) (hr : regParts .word r ⊆ ps) :
    Frame ps bs s (t.setReg16 r v) where
  reg p hp := (RegPart.get_setReg16 t v fun hm => hp (hr hm)).trans (h.reg p hp)
  flag := by simpa using h.flag
  ip := by simpa using h.ip
  run := by simpa using h.run
  fault := by simpa using h.fault
  mem_wf := by simpa using h.mem_wf

theorem setReg {w : Width} {r : RegNum} {v : BitVec w.bits} (h : Frame ps bs s t) (hr : regParts w r ⊆ ps) :
    Frame ps bs s (t.setReg w r v) := by
  cases w with
  | byte => exact h.setReg8 (hr (List.mem_singleton_self _))
  | word => exact h.setReg16 hr

theorem setSreg {r : SReg} {v : Word} (h : Frame ps bs s t) (hr : .seg r ∈ ps) : Frame ps bs s (t.setSreg r v) where
  reg p hp := (RegPart.get_setSreg t v (by rintro rfl; exact hp hr)).trans (h.reg p hp)
  flag := by simpa using h.flag
  ip := by
    have := h.ip
    cases r <;> exact this
  run := by simpa using h.run
  fault := by simpa using h.fault
  mem_wf := by simpa using h.mem_wf

theorem write {w : Width} {sg off : Word} {v : BitVec w.bits} (h : Frame ps bs s t) :
    Frame ps bs s (t.write w sg off v) where
  reg p hp := (RegPart.get_update p t ..).trans (h.reg p hp)
  flag := h.flag
  ip := h.ip
  run := h.run
  fault := h.fault
  mem_wf hm := Memory.wf_write w _ v (h.mem_wf hm)

theorem setFlags {fl : Word} (h : Frame ps bs s t) (hf : FlagsKept bs t.flags fl) : Frame ps bs s (t.setFlags fl) where
  reg p hp := (RegPart.get_update p t ..).trans (h.reg p hp)
  flag := h.flag.trans hf
  ip := h.ip
  run := h.run
  fault := h.fault
  mem_wf := h.mem_wf

theorem undef {fs : List Flag} (h : Frame ps bs s t) (hf : fs.map Flag.bit ⊆ bs) : Frame ps bs s (t.undef fs) where
  reg p hp := (RegPart.get_update p t ..).trans (h.reg p hp)
  flag := h.flag.trans (flagsKept_undefFlags _ _ hf)
  ip := h.ip
  run := h.run
  fault := h.fault
  mem_wf := h.mem_wf

theorem portRead {w : Width} {port : Word} (h : Frame ps bs s t) : Frame ps bs s (t.portRead w port) where
  reg p hp := (RegPart.get_update p t ..).trans (h.reg p hp)
  flag := h.flag
  ip := h.ip
  run := h.run
  fault := h.fault
  mem_wf := h.mem_wf

theorem portWrite {w : Width} {port : Word} {v : BitVec w.bits} (h : Frame ps bs s t) :
    Frame ps bs s (t.portWrite w port v) where
  reg p hp := (RegPart.get_update p t ..).trans (h.reg p hp)
  flag := h.flag
  ip := h.ip
  run := h.run
  fault := h.fault
  mem_wf := h.mem_wf

theorem assignFlag {f : Flag} {v : Bool} (h : Frame ps bs s t) (hf : f.bit ∈ bs) :
    Frame ps bs s (t.assignFlag f v) :=
  h.setFlags (flagsKept_setFlag _ _ hf)

/-! The stack operations, the counters and the index registers are writes of one 16-bit register. -/

theorem push16 {v : Word} (h : Frame ps bs s t) (hp : .sp ∈ ps) : Frame ps bs s (t.push16 v) :=
  (h.setReg16 (r := .r4) (v := t.sp - 2) (by simpa [regParts] using hp)).write

theorem pop16 (h : Frame ps bs s t) (hp : .sp ∈ ps) : Frame ps bs s t.pop16 :=
  h.setReg16 (r := .r4) (v := t.sp + 2) (by simpa [regParts] using hp)

theorem addSp {n : Word} (h : Frame ps bs s t) (hp : .sp ∈ ps) : Frame ps bs s (t.addSp n) :=
  h.setReg16 (r := .r4) (v := t.sp + n) (by simpa [regParts] using hp)

theorem stepSi {w : Width} (h : Frame ps bs s t) (hp : .si ∈ ps) : Frame ps bs s (t.stepSi w) :=
  h.setReg16 (r := .r6) (v := t.si + t.stringDelta w) (by simpa [regParts] using hp)

theorem stepDi {w : Width} (h : Frame ps bs s t) (hp : .di ∈ ps) : Frame ps bs s (t.stepDi w) :=
  h.setReg16 (r := .r7) (v := t.di + t.stringDelta w) (by simpa [regParts] using hp)

theorem decCx (h : Frame ps bs s t) (hp : regParts .word .r1 ⊆ ps) : Frame ps bs s t.decCx :=
  h.setReg16 (r := .r1) (v := t.cx - 1) hp

/-! ### Locations and the shared operations -/

end Frame

/-- The register parts of a location: none when it is memory. -/
def locParts (w : Width) : Loc → List RegPart
  | .reg r => regParts w r
  | .mem _ _ => []

@[simp] theorem locParts_loc (w : Width) (c : Ctx) (rm : RM) (s : State) : locParts w (c.loc rm s) = rmParts w rm := by
  cases rm <;> rfl

/-- The register parts a string instruction updates besides CX (R341, R343 to R347). -/
def StringOp.parts (op : StringOp) (w : Width) : List RegPart :=
  match op with
  | .movs | .cmps => [.si, .di]
  | .lods => .si :: regParts w .r0
  | .scas | .stos => [.di]

namespace Frame

variable {s t : State}

theorem writeLoc {w : Width} {l : Loc} {v : BitVec w.bits} (h : Frame ps bs s t) (hl : locParts w l ⊆ ps) :
    Frame ps bs s (t.writeLoc w l v) := by
  cases l with
  | reg r => exact h.setReg hl
  | mem sg off => exact h.write

theorem aluSetFlags {n : Nat} {op : AluOp} {x y : BitVec n} (h : Frame ps bs s t) (hb : statusBits ⊆ bs) :
    Frame ps bs s (op.setFlags x y t) := by
  have haf : [Flag.af].map Flag.bit ⊆ bs := fun b hm => hb (by simp_all [Flag.bit, statusBits])
  cases op with
  | add | adc => exact h.setFlags ((flagsKept_addFlags _ _ _ _).mono hb)
  | sub | sbb | cmp => exact h.setFlags ((flagsKept_subFlags _ _ _ _).mono hb)
  | and | or | xor | test => exact (h.setFlags ((flagsKept_logicFlags _ _).mono hb)).undef haf

theorem alu {op : AluOp} {w : Width} {l : Loc} {y : BitVec w.bits} (h : Frame ps bs s t)
    (hl : op.writes = true → locParts w l ⊆ ps) (hb : statusBits ⊆ bs) : Frame ps bs s (t.alu op w l y) := by
  unfold State.alu
  dsimp only
  split
  · next hw => exact (h.aluSetFlags hb).writeLoc (hl hw)
  · exact h.aluSetFlags hb

theorem inc {w : Width} {l : Loc} (h : Frame ps bs s t) (hl : locParts w l ⊆ ps) (hb : [11, 7, 6, 4, 2] ⊆ bs) :
    Frame ps bs s (t.inc w l) := by
  have hf : FlagsKept [11, 7, 6, 4, 2] t.flags (t.inc w l).flags := ⟨t.inc_flag_other w l⟩
  rw [State.inc, State.writeLoc_flags] at hf
  exact (h.setFlags (hf.mono hb)).writeLoc hl

theorem dec {w : Width} {l : Loc} (h : Frame ps bs s t) (hl : locParts w l ⊆ ps) (hb : [11, 7, 6, 4, 2] ⊆ bs) :
    Frame ps bs s (t.dec w l) := by
  have hf : FlagsKept [11, 7, 6, 4, 2] t.flags (t.dec w l).flags := ⟨t.dec_flag_other w l⟩
  rw [State.dec, State.writeLoc_flags] at hf
  exact (h.setFlags (hf.mono hb)).writeLoc hl

theorem neg {w : Width} {l : Loc} (h : Frame ps bs s t) (hl : locParts w l ⊆ ps) (hb : statusBits ⊆ bs) :
    Frame ps bs s (t.neg w l) :=
  (h.setFlags ((flagsKept_subFlags _ _ _ _).mono hb)).writeLoc hl

/-- A shift or rotate by 0 changes nothing; otherwise its flags are those of its row of R33. -/
theorem shift {op : ShiftOp} {w : Width} {l : Loc} {n : Nat} (h : Frame ps bs s t) (hl : locParts w l ⊆ ps)
    (hb : n ≠ 0 → shiftBits op ⊆ bs) : Frame ps bs s (t.shift op w l n) := by
  unfold State.shift
  split
  · exact h
  · next hn =>
    dsimp only
    have hw : ∀ x y, Frame ps bs s ((t.setFlags (op.flags n x y t.flags)).writeLoc w l y.2) := fun x y =>
      (h.setFlags ((flagsKept_shiftFlags op n x y _).mono (hb hn))).writeLoc hl
    split
    · exact hw _ _
    · exact (hw _ _).undef (List.Subset.trans (undefined_subset_shiftBits op n) (hb hn))

theorem setProduct {w : Width} {p : Int} (h : Frame ps bs s t) (hax : regParts .word .r0 ⊆ ps)
    (hdx : w = .word → regParts .word .r2 ⊆ ps) : Frame ps bs s (t.setProduct w p) := by
  cases w with
  | byte => exact h.setReg16 (r := .r0) hax
  | word =>
    exact (h.setReg16 (r := .r2) (v := (BitVec.ofInt 32 p).extractLsb' 16 16) (hdx rfl)).setReg16 (r := .r0)
      (v := (BitVec.ofInt 32 p).extractLsb' 0 16) hax

theorem setQuotient {w : Width} {q r : BitVec w.bits} (h : Frame ps bs s t) (hax : regParts .word .r0 ⊆ ps)
    (hdx : w = .word → regParts .word .r2 ⊆ ps) : Frame ps bs s (t.setQuotient w q r) := by
  cases w with
  | byte => exact h.setReg16 (r := .r0) hax
  | word => exact (h.setReg16 (r := .r2) (v := r) (hdx rfl)).setReg16 (r := .r0) (v := q) hax

theorem setProductFlags {big : Bool} (h : Frame ps bs s t) (hb : statusBits ⊆ bs) :
    Frame ps bs s (t.setProductFlags big) :=
  ((h.assignFlag (hb (by decide))).assignFlag (hb (by decide))).undef (List.Subset.trans (by decide) hb)

theorem asciiAdjust {six one : Byte} (h : Frame ps bs s t) (hp : regParts .word .r0 ⊆ ps) (hb : statusBits ⊆ bs) :
    Frame ps bs s (t.asciiAdjust six one) :=
  (((h.setReg16 (r := .r0) hp).assignFlag (hb (by decide))).assignFlag (hb (by decide))).undef
    (List.Subset.trans (by decide) hb)

theorem decimalAdjust {six sixty : Byte} (h : Frame ps bs s t) (hp : .half .r0 ∈ ps) (hb : statusBits ⊆ bs) :
    Frame ps bs s (t.decimalAdjust six sixty) := by
  have hf : ∀ (al : Byte) (lo hi : Bool),
      FlagsKept statusBits t.flags (setSZP al (setFlag (setFlag t.flags .af lo) .cf hi)) := fun al lo hi =>
    ((flagsKept_setFlag _ _ (by decide)).trans (flagsKept_setFlag _ _ (by decide))).trans (flagsKept_setSZP _ _)
  exact ((h.setReg8 hp).setFlags ((hf _ _ _).mono hb)).undef (List.Subset.trans (by decide) hb)

theorem setAdjusted {ah al : Byte} (h : Frame ps bs s t) (hp : regParts .word .r0 ⊆ ps) (hb : statusBits ⊆ bs) :
    Frame ps bs s (t.setAdjusted ah al) :=
  ((h.setReg16 (r := .r0) hp).setFlags ((flagsKept_setSZP _ _).mono hb)).undef (List.Subset.trans (by decide) hb)

theorem stringOnce {op : StringOp} {w : Width} {c : Ctx} (h : Frame ps bs s t)
    (hp : op.parts w ⊆ ps) (hb : op.compares = true → statusBits ⊆ bs) : Frame ps bs s (t.stringOnce op w c) := by
  cases op with
  | movs => exact (h.write.stepSi (hp (by simp [StringOp.parts]))).stepDi (hp (by simp [StringOp.parts]))
  | lods => exact (h.setReg (List.Subset.trans (List.subset_cons_self _ _) hp)).stepSi (hp (List.mem_cons_self ..))
  | cmps =>
    refine ((h.setFlags ?_).stepSi (hp (by simp [StringOp.parts]))).stepDi (hp (by simp [StringOp.parts]))
    exact (flagsKept_subFlags _ _ _ _).mono (hb rfl)
  | scas => exact (h.setFlags ((flagsKept_subFlags _ _ _ _).mono (hb rfl))).stepDi (hp (by simp [StringOp.parts]))
  | stos => exact h.write.stepDi (hp (by simp [StringOp.parts]))

theorem stringLoop {op : StringOp} {w : Width} {c : Ctx} {r : Repeat} {n : Nat} (h : Frame ps bs s t)
    (hp : op.parts w ⊆ ps) (hcx : regParts .word .r1 ⊆ ps) (hb : op.compares = true → statusBits ⊆ bs) :
    Frame ps bs s (State.stringLoop op w c r n t) := by
  induction n generalizing t with
  | zero => exact h
  | succ n ih =>
    have h1 := (h.stringOnce (c := c) hp hb).decCx hcx
    rw [State.stringLoop]
    split
    · exact h1
    · exact ih h1

end Frame

/-! ## How an instruction ends

One inversion lemma for all instructions: `execUnder_ends`. -/

/-- The instructions whose meaning can find a division fault (R262, R263, R268). -/
inductive Divides : Instr → Prop
  | div (w : Width) (rm : RM) : Divides (.divRm w rm)
  | idiv (w : Width) (rm : RM) : Divides (.idivRm w rm)
  | aam (imm : Byte) : Divides (.aam imm)

/-- The ends of an instruction `i` without prefixes, run from `s` with the prefixes `c` in force: it goes on at the next
instruction, it transfers control, it halts, or it takes a fault in which nothing but the record and the run state
changes. What it changes besides is in its frame. -/
inductive Ends (c : Ctx) (i : Instr) (s : State) : Out → Prop
  | goes {u : State} {n : Nat} (frame : Frame (written i) (flagBits s i) s u) (len : i.len = n) :
      Ends c i s (.next (u.advance c n))
  | jumps {u : State} {target : Word} (frame : Frame (written i) (flagBits s i) s u)
      (transfer : transfers i = true) : Ends c i s (.next (u.setIp target))
  | halts (hlt : i = .hlt) : Ends c i s (.next (s.advance c 1).halt)
  | dividesBadly {cause : FaultCause} {op : Byte} (divides : Divides i) (opcode : (encode i).head? = some op)
      (cause_ne : cause ≠ .preconditionViolation) : Ends c i s (.next (s.takeFault cause op none))
  | malformed {op : Byte} (malformed : i.operandsOk = false) (opcode : (encode i).head? = some op) :
      Ends c i s (.next (s.takeFault .preconditionViolation op none))

namespace Ends

variable {c : Ctx} {i : Instr} {s : State}

theorem aluRmReg {op : AluOp} {d : Dir} {w : Width} {reg : RegNum} {rm : RM}
    (hp : op.writes = true → dirParts d w reg rm ⊆ written i) (hb : statusBits ⊆ flagBits s i)
    (hl : i.len = 2 + rm.dispLen) : Ends c i s (.next (aluRmReg op d w reg rm c s)) := by
  cases d with
  | toRM => exact .goes (Frame.refl.alu (fun hw => by simpa [dirParts] using hp hw) hb) hl
  | toReg => exact .goes (Frame.refl.alu hp hb) hl

theorem aluAl {op : AluOp} {imm : Byte} (hp : op.writes = true → [.half .r0] ⊆ written i)
    (hb : statusBits ⊆ flagBits s i) (hl : i.len = 2) : Ends c i s (.next (aluAl op imm c s)) :=
  .goes (Frame.refl.alu hp hb) hl

theorem aluAx {op : AluOp} {imm : Word} (hp : op.writes = true → regParts .word .r0 ⊆ written i)
    (hb : statusBits ⊆ flagBits s i) (hl : i.len = 3) : Ends c i s (.next (aluAx op imm c s)) :=
  .goes (Frame.refl.alu hp hb) hl

theorem aluRm8Imm8 {op : AluOp} {rm : RM} {imm : Byte} (hp : op.writes = true → rmParts .byte rm ⊆ written i)
    (hb : statusBits ⊆ flagBits s i) (hl : i.len = 3 + rm.dispLen) :
    Ends c i s (.next (aluRm8Imm8 op rm imm c s)) :=
  .goes (Frame.refl.alu (fun hw => by simpa using hp hw) hb) hl

theorem aluRm16Imm16 {op : AluOp} {rm : RM} {imm : Word} (hp : op.writes = true → rmParts .word rm ⊆ written i)
    (hb : statusBits ⊆ flagBits s i) (hl : i.len = 4 + rm.dispLen) :
    Ends c i s (.next (aluRm16Imm16 op rm imm c s)) :=
  .goes (Frame.refl.alu (fun hw => by simpa using hp hw) hb) hl

theorem aluRm16Imm8 {op : AluOp} {rm : RM} {imm : Byte} (hp : op.writes = true → rmParts .word rm ⊆ written i)
    (hb : statusBits ⊆ flagBits s i) (hl : i.len = 3 + rm.dispLen) :
    Ends c i s (.next (aluRm16Imm8 op rm imm c s)) :=
  .goes (Frame.refl.alu (fun hw => by simpa using hp hw) hb) hl

theorem shiftRm {op : ShiftOp} {v : Count} {w : Width} {rm : RM} (hp : rmParts w rm ⊆ written i)
    (hb : s.shiftCount v ≠ 0 → shiftBits op ⊆ flagBits s i) (hl : i.len = 2 + rm.dispLen) :
    Ends c i s (.next (shiftRm op v w rm c s)) :=
  .goes (Frame.refl.shift (by simpa using hp) hb) hl

theorem stringExec {op : StringOp} {w : Width} (hp : op.parts w ++ regParts .word .r1 ⊆ written i)
    (hb : op.compares = true → statusBits ⊆ flagBits s i) (hl : i.len = 1) :
    Ends c i s (.next (stringExec op w c s)) := by
  obtain ⟨hop, hcx⟩ := List.append_subset.1 hp
  refine .goes ?_ hl
  split
  · exact Frame.refl.stringOnce hop hb
  · exact Frame.refl.stringLoop hop hcx hb

/-- A far transfer is a write of CS and a jump. -/
theorem farTransfer {u : State} {sg off : Word} (frame : Frame (written i) (flagBits s i) s u)
    (hcs : .seg .cs ∈ written i) (ht : transfers i = true) : Ends c i s (.next (u.setCsIp sg off)) :=
  .jumps (u := u.setSreg .cs sg) (target := off) (frame.setSreg hcs) ht

theorem interrupt {t : Byte} {ret : Word} (hp : [.sp, .seg .cs] ⊆ written i) (hb : [9, 8] ⊆ flagBits s i)
    (ht : transfers i = true) : Ends c i s (.next (s.interrupt t ret)) := by
  obtain ⟨hsp, hcs⟩ := List.cons_subset.1 hp
  have frame : Frame (written i) (flagBits s i) s (((s.push16 s.flags).assignFlag .intf false).assignFlag .tf false) :=
    ((Frame.refl.push16 hsp).assignFlag (hb (by decide))).assignFlag (hb (by decide))
  exact .farTransfer ((frame.push16 hsp).push16 hsp) (hcs (List.mem_singleton_self _)) ht

theorem finishDivide {w : Width} {rm : RM} {res : Except FaultCause (BitVec w.bits × BitVec w.bits)}
    (hi : Divides i) (hax : regParts .word .r0 ⊆ written i) (hdx : w = .word → regParts .word .r2 ⊆ written i)
    (hb : statusBits ⊆ flagBits s i) (hl : i.len = 2 + rm.dispLen) (hop : (encode i).head? = some (opW 0xF6 w))
    (hres : ∀ cause, res = .error cause → cause ≠ .preconditionViolation) :
    Ends c i s (.next (s.finishDivide w rm c res)) := by
  cases res with
  | ok qr => exact .goes ((Frame.refl.setQuotient hax hdx).undef (List.Subset.trans (by decide) hb)) hl
  | error cause => exact .dividesBadly hi hop (hres cause rfl)

end Ends

theorem shiftCount_eq (s : State) (v : Count) : s.shiftCount v = shiftCountOf v s := by
  cases v with
  | one => rfl
  | cl => simp [State.shiftCount, shiftCountOf, loByte]

theorem shiftBits_subset {op : ShiftOp} {s : State} {v : Count} (h : s.shiftCount v ≠ 0) :
    shiftBits op ⊆ if shiftCountOf v s = 0 then [] else shiftBits op := by
  rw [if_neg (shiftCount_eq s v ▸ h)]
  exact List.Subset.refl _

theorem locParts_loc_subset (w : Width) (c : Ctx) (rm : RM) (s : State) : locParts w (c.loc rm s) ⊆ rmParts w rm := by
  rw [locParts_loc]
  exact List.Subset.refl _

theorem unsignedDivide_cause {n : Nat} {num : BitVec (n + n)} {src : BitVec n} {cause : FaultCause}
    (h : unsignedDivide num src = .error cause) : cause ≠ .preconditionViolation := by
  unfold unsignedDivide at h
  split at h
  · cases h; decide
  · split at h <;> cases h
    decide

theorem signedDivide_cause {n : Nat} {num : BitVec (n + n)} {src : BitVec n} {cause : FaultCause}
    (h : signedDivide num src = .error cause) : cause ≠ .preconditionViolation := by
  unfold signedDivide at h
  split at h
  · cases h; decide
  · dsimp only at h
    split at h <;> cases h
    decide

theorem flagMask_bits : ∀ b : Fin 16, flagMask.getLsbD b = true → b.val ∈ definedBits := by decide

theorem lowFlagMask_bits : ∀ b : Fin 16, lowFlagMask.getLsbD b = true → b.val ∈ [7, 6, 4, 2, 0] := by decide

/-- IRET as three pops, a load of CS and FLAGS, and a jump (R388). -/
theorem interruptReturn_eq (s : State) : s.interruptReturn =
    ((s.pop16.pop16.pop16.setSreg .cs s.pop16.stackTop).setFlags
      (loadFlags flagMask s.pop16.pop16.stackTop s.flags)).setIp s.stackTop := rfl

/-- Every instruction without prefixes ends in one of the five ways: the inversion lemma of `execUnder`. -/
theorem execUnder_ends (c : Ctx) (i : Instr) (s : State) (h : i.prefixes = []) : Ends c i s (execUnder c i s) := by
  cases i with
  | segEs | segCs | segSs | segDs | lock | repne | rep => exact absurd h (List.cons_ne_nil _ _)
  | addRmReg | adcRmReg | subRmReg | sbbRmReg | andRmReg | orRmReg | xorRmReg =>
    exact .aluRmReg (fun _ => List.Subset.refl _) (List.Subset.refl _) rfl
  | addAl | adcAl | subAl | sbbAl | andAl | orAl | xorAl =>
    exact .aluAl (fun _ => List.Subset.refl _) (List.Subset.refl _) rfl
  | addAx | adcAx | subAx | sbbAx | andAx | orAx | xorAx =>
    exact .aluAx (fun _ => List.Subset.refl _) (List.Subset.refl _) rfl
  | addRm8Imm8 | adcRm8Imm8 | subRm8Imm8 | sbbRm8Imm8 | andRm8Imm8 | orRm8Imm8 | xorRm8Imm8
  | addRm8Imm8Alt | adcRm8Imm8Alt | subRm8Imm8Alt | sbbRm8Imm8Alt | andRm8Imm8Alt | orRm8Imm8Alt | xorRm8Imm8Alt =>
    exact .aluRm8Imm8 (fun _ => List.Subset.refl _) (List.Subset.refl _) rfl
  | addRm16Imm16 | adcRm16Imm16 | subRm16Imm16 | sbbRm16Imm16 | andRm16Imm16 | orRm16Imm16 | xorRm16Imm16 =>
    exact .aluRm16Imm16 (fun _ => List.Subset.refl _) (List.Subset.refl _) rfl
  | addRm16Imm8 | adcRm16Imm8 | subRm16Imm8 | sbbRm16Imm8 | andRm16Imm8 | orRm16Imm8 | xorRm16Imm8 =>
    exact .aluRm16Imm8 (fun _ => List.Subset.refl _) (List.Subset.refl _) rfl
  | cmpRmReg | testRmReg => exact .aluRmReg nofun (List.Subset.refl _) rfl
  | cmpAl | testAl => exact .aluAl nofun (List.Subset.refl _) rfl
  | cmpAx | testAx => exact .aluAx nofun (List.Subset.refl _) rfl
  | cmpRm8Imm8 | cmpRm8Imm8Alt | testRm8Imm8 => exact .aluRm8Imm8 nofun (List.Subset.refl _) rfl
  | cmpRm16Imm16 | testRm16Imm16 => exact .aluRm16Imm16 nofun (List.Subset.refl _) rfl
  | cmpRm16Imm8 => exact .aluRm16Imm8 nofun (List.Subset.refl _) rfl
  | incReg => exact .goes (Frame.refl.inc (List.Subset.refl _) (List.Subset.refl _)) rfl
  | decReg => exact .goes (Frame.refl.dec (List.Subset.refl _) (List.Subset.refl _)) rfl
  | incRm => exact .goes (Frame.refl.inc (locParts_loc_subset ..) (List.Subset.refl _)) rfl
  | decRm => exact .goes (Frame.refl.dec (locParts_loc_subset ..) (List.Subset.refl _)) rfl
  | negRm => exact .goes (Frame.refl.neg (locParts_loc_subset ..) (List.Subset.refl _)) rfl
  | notRm | movRm8Imm8 | movRm16Imm16 | movRmSreg => exact .goes (Frame.refl.writeLoc (locParts_loc_subset ..)) rfl
  | rolRm | rorRm | rclRm | rcrRm | shlRm | shrRm | sarRm =>
    exact .shiftRm (List.Subset.refl _) shiftBits_subset rfl
  | mulRm w | imulRm w =>
    cases w with
    | byte =>
      exact .goes ((Frame.refl.setProduct (w := .byte) (List.Subset.refl _) nofun).setProductFlags
        (List.Subset.refl _)) rfl
    | word =>
      exact .goes ((Frame.refl.setProduct (List.subset_append_left _ _) fun _ =>
        List.subset_append_right _ _).setProductFlags (List.Subset.refl _)) rfl
  | divRm w rm =>
    cases w with
    | byte =>
      exact .finishDivide (.div ..) (List.Subset.refl _) nofun (List.Subset.refl _) rfl rfl
        fun _ => unsignedDivide_cause
    | word =>
      exact .finishDivide (.div ..) (List.subset_append_left _ _) (fun _ => List.subset_append_right _ _)
        (List.Subset.refl _) rfl rfl fun _ => unsignedDivide_cause
  | idivRm w rm =>
    cases w with
    | byte =>
      exact .finishDivide (.idiv ..) (List.Subset.refl _) nofun (List.Subset.refl _) rfl rfl
        fun _ => signedDivide_cause
    | word =>
      exact .finishDivide (.idiv ..) (List.subset_append_left _ _) (fun _ => List.subset_append_right _ _)
        (List.Subset.refl _) rfl rfl fun _ => signedDivide_cause
  | daa | das => exact .goes (Frame.refl.decimalAdjust (List.mem_singleton_self _) (List.Subset.refl _)) rfl
  | aaa | aas => exact .goes (Frame.refl.asciiAdjust (List.Subset.refl _) (List.Subset.refl _)) rfl
  | aam imm =>
    rw [execUnder_aam, execAam]
    split
    · exact .dividesBadly (.aam imm) rfl nofun
    · exact .goes (Frame.refl.setAdjusted (List.Subset.refl _) (List.Subset.refl _)) rfl
  | aad => exact .goes (Frame.refl.setAdjusted (List.Subset.refl _) (List.Subset.refl _)) rfl
  | pushEs | pushCs | pushSs | pushDs | pushReg | pushRm | pushf =>
    exact .goes (Frame.refl.push16 (List.mem_singleton_self _)) rfl
  | popEs | popSs | popDs =>
    exact .goes ((Frame.refl.pop16 (List.mem_cons_self ..)).setSreg
      (List.mem_cons_of_mem _ (List.mem_singleton_self _))) rfl
  | popReg =>
    exact .goes ((Frame.refl.pop16 (List.mem_cons_self ..)).setReg16 (List.subset_cons_self _ _)) rfl
  | popRm =>
    exact .goes ((Frame.refl.pop16 (List.mem_cons_self ..)).writeLoc
      (List.Subset.trans (locParts_loc_subset ..) (List.subset_cons_self _ _))) rfl
  | popf =>
    exact .goes ((Frame.refl.pop16 (List.mem_singleton_self _)).setFlags
      (flagsKept_loadFlags _ _ flagMask_bits)) rfl
  | sahf => exact .goes (Frame.refl.setFlags (flagsKept_loadFlags _ _ lowFlagMask_bits)) rfl
  | lahf | cbw | xlat | movReg8Imm => exact .goes (Frame.refl.setReg8 (List.mem_singleton_self _)) rfl
  | cwd | movReg16Imm => exact .goes (Frame.refl.setReg16 (List.Subset.refl _)) rfl
  | movRmReg d w reg rm =>
    cases d with
    | toRM => exact .goes (Frame.refl.writeLoc (locParts_loc_subset ..)) rfl
    | toReg => exact .goes (Frame.refl.setReg (List.Subset.refl _)) rfl
  | movAccMoffs => exact .goes (Frame.refl.setReg (List.Subset.refl _)) rfl
  | movMoffsAcc => exact .goes Frame.refl.write rfl
  | movSregRm => exact .goes (Frame.refl.setSreg (List.mem_singleton_self _)) rfl
  | xchgAxCx | xchgAxDx | xchgAxBx | xchgAxSp | xchgAxBp | xchgAxSi | xchgAxDi =>
    exact .goes ((Frame.refl.setReg16 (List.subset_append_left _ _)).setReg16 (List.subset_append_right _ _)) rfl
  | xchgRmReg =>
    exact .goes ((Frame.refl.writeLoc (List.Subset.trans (locParts_loc_subset ..)
      (List.subset_append_right _ _))).setReg (List.subset_append_left _ _)) rfl
  | inImm | inDx => exact .goes (Frame.refl.portRead.setReg (List.Subset.refl _)) rfl
  | outImm | outDx => exact .goes Frame.refl.portWrite rfl
  | lea reg rm =>
    cases rm with
    | reg => exact .malformed rfl rfl
    | direct | mem => exact .goes (Frame.refl.setReg16 (List.Subset.refl _)) rfl
  | les reg rm | lds reg rm =>
    cases rm with
    | reg => exact .malformed rfl rfl
    | direct | mem =>
      exact .goes ((Frame.refl.setReg16 (List.subset_cons_self _ _)).setSreg (List.mem_cons_self ..)) rfl
  | movs | stos | lods => exact .stringExec (List.Subset.refl _) nofun rfl
  | cmps | scas => exact .stringExec (List.Subset.refl _) (fun _ => List.Subset.refl _) rfl
  | clc | stc | cmc | cld | std | cli | sti => exact .goes (Frame.refl.assignFlag (List.mem_singleton_self _)) rfl
  | nop | wait | esc => exact .goes Frame.refl rfl
  | hlt => exact .halts rfl
  | jo | jno | jb | jnb | jz | jnz | jbe | jnbe | js | jns | jp | jnp | jl | jnl | jle | jnle | jcxz
  | jmpShort | jmpRel | jmpRm => exact .jumps Frame.refl rfl
  | loop | loopz | loopnz => exact .jumps (Frame.refl.setReg16 (r := .r1) (List.Subset.refl _)) rfl
  | callRel | callRm => exact .jumps (Frame.refl.push16 (List.mem_singleton_self _)) rfl
  | ret => exact .jumps (Frame.refl.pop16 (List.mem_singleton_self _)) rfl
  | retImm =>
    exact .jumps ((Frame.refl.pop16 (List.mem_singleton_self _)).addSp (List.mem_singleton_self _)) rfl
  | callFar =>
    exact .farTransfer ((Frame.refl.push16 (List.mem_cons_self ..)).push16 (List.mem_cons_self ..))
      (List.mem_cons_of_mem _ (List.mem_singleton_self _)) rfl
  | callFarRm rm =>
    cases rm with
    | reg => exact .malformed rfl rfl
    | direct | mem =>
      exact .farTransfer ((Frame.refl.push16 (List.mem_cons_self ..)).push16 (List.mem_cons_self ..))
        (List.mem_cons_of_mem _ (List.mem_singleton_self _)) rfl
  | jmpFar => exact .farTransfer Frame.refl (List.mem_singleton_self _) rfl
  | jmpFarRm rm =>
    cases rm with
    | reg => exact .malformed rfl rfl
    | direct | mem => exact .farTransfer Frame.refl (List.mem_singleton_self _) rfl
  | retf | retfImm =>
    exact .farTransfer (((Frame.refl.pop16 (List.mem_cons_self ..)).pop16 (List.mem_cons_self ..)).addSp
      (List.mem_cons_self ..)) (List.mem_cons_of_mem _ (List.mem_singleton_self _)) rfl
  | int3 | intImm => exact .interrupt (List.Subset.refl _) (List.Subset.refl _) rfl
  | into =>
    rw [execUnder_into, execInto]
    split
    · next hof =>
      have hb : flagBits s .into = [9, 8] := if_pos hof
      exact .interrupt (List.Subset.refl _) (hb ▸ List.Subset.refl _) rfl
    · exact .jumps Frame.refl rfl
  | iret =>
    have pop3 : Frame [.sp, .seg .cs] definedBits s s.pop16.pop16.pop16 :=
      ((Frame.refl.pop16 (List.mem_cons_self ..)).pop16 (List.mem_cons_self ..)).pop16 (List.mem_cons_self ..)
    rw [execUnder_iret, execIret, interruptReturn_eq]
    exact .jumps ((pop3.setSreg (List.mem_cons_of_mem _ (List.mem_singleton_self _))).setFlags
      (flagsKept_loadFlags _ _ flagMask_bits)) rfl

/-! ### From an instruction without prefixes to any instruction -/

theorem body_prefixes (i : Instr) : i.body.prefixes = [] :=
  List.eq_nil_of_length_eq_zero (by rw [Instr.prefixes_length, Instr.body_prefixCount])

/-- Every instruction ends as its body does with its prefixes in force. -/
theorem exec_ends (i : Instr) (s : State) : Ends (Ctx.ofPrefixes i.prefixes) i.body s (exec i s) := by
  rw [exec_body]
  exact execUnder_ends _ _ _ (body_prefixes i)

theorem withPrefixes_len (ps : List Prefix) (i : Instr) : (i.withPrefixes ps).len = ps.length + i.len := by
  induction ps with
  | nil => exact (Nat.zero_add _).symm
  | cons p ps ih => rw [Instr.withPrefixes_cons, Instr.withPrefix_len, ih, List.length_cons]; omega

/-- The length is that of the body and one byte for each of the prefixes (R121). -/
theorem len_eq_body (i : Instr) : i.len = i.prefixes.length + i.body.len := by
  conv_lhs => rw [← Instr.body_withPrefixes i, withPrefixes_len]

theorem operandsOk_body (i : Instr) : i.operandsOk = i.body.operandsOk := by
  conv_lhs => rw [← Instr.body_withPrefixes i, Instr.withPrefixes_operandsOk]

/-- `next` behind the prefixes of `i` is IP and the length of the whole encoding, modulo 2^16 (R27, R121). -/
theorem next_body_len (i : Instr) (s : State) :
    (Ctx.ofPrefixes i.prefixes).next i.body.len s = s.ip + BitVec.ofNat 16 (encode i).length := by
  rw [Ctx.next, Ctx.ofPrefixes_count, ← len_eq_body, show (encode i).length = i.len from Laws.Length.all i]

namespace Ends

variable {c : Ctx} {i : Instr} {s t : State} {o : Out}

theorem next (h : Ends c i s o) : ∃ t, o = .next t := by
  cases h <;> exact ⟨_, rfl⟩

/-- The register parts outside the rule's own are kept, whatever the end. -/
theorem reg (h : Ends c i s (.next t)) {p : RegPart} (hp : p ∉ written i) : p.get t = p.get s := by
  cases h with
  | goes frame | jumps frame => exact (RegPart.get_update p _ ..).trans (frame.reg p hp)
  | halts | dividesBadly | malformed => exact RegPart.get_update p s ..

/-- The FLAGS bits outside the rule's own are kept, whatever the end. -/
theorem flag (h : Ends c i s (.next t)) : FlagsKept (flagBits s i) s.flags t.flags := by
  cases h with
  | goes frame | jumps frame => exact frame.flag
  | halts | dividesBadly | malformed => exact .refl

/-- Memory stays canonical, whatever the end. -/
theorem mem_wf (h : Ends c i s (.next t)) (hm : s.mem.wf = true) : t.mem.wf = true := by
  cases h with
  | goes frame | jumps frame => exact frame.mem_wf hm
  | halts | dividesBadly | malformed => exact hm

/-- Without a fault the record is kept, and the run state unless the instruction halts. -/
theorem run_cases (h : Ends c i s (.next t)) :
    (t.run = s.run ∧ t.fault = s.fault) ∨ (i = .hlt ∧ t.run = .halted ∧ t.fault = s.fault) ∨
      ((Divides i ∨ i.operandsOk = false) ∧ ∃ cause op, t = s.takeFault cause op none) := by
  cases h with
  | goes frame | jumps frame => exact .inl ⟨frame.run, frame.fault⟩
  | halts hlt => exact .inr (.inl ⟨hlt, rfl, rfl⟩)
  | dividesBadly divides => exact .inr (.inr ⟨.inl divides, _, _, rfl⟩)
  | malformed malformed => exact .inr (.inr ⟨.inr malformed, _, _, rfl⟩)

/-- Without a fault and a transfer IP is `next` (R27). -/
theorem ip (h : Ends c i s (.next t)) (hf : t.run ≠ .faulted) (ht : transfers i = false) : t.ip = c.next i.len s := by
  cases h with
  | goes frame len => rw [State.advance_ip, Ctx.next, frame.ip, len, Ctx.next]
  | jumps _ transfer => rw [transfer] at ht; cases ht
  | halts hlt => rw [hlt]; rfl
  | dividesBadly | malformed => exact absurd rfl hf

end Ends

theorem ends_of_exec {i : Instr} {s t : State} (h : exec i s = .next t) :
    Ends (Ctx.ofPrefixes i.prefixes) i.body s (.next t) :=
  h ▸ exec_ends i s

/-! ### The invariant -/

theorem inv_of_no_record {t : State} (hm : t.mem.wf = true) (hf : t.fault = none) (hr : t.run ≠ .faulted) :
    t.Inv where
  mem_wf := hm
  record_iff_faulted := by simp [hf, hr]
  record_at_ip := by simp [hf]

/-- Taking a fault names the instruction at which IP stands (R503, R504). -/
theorem inv_takeFault {s : State} (hm : s.mem.wf = true) (cause : FaultCause) (op : Byte) (m : Option Byte) :
    (s.takeFault cause op m).Inv where
  mem_wf := hm
  record_iff_faulted := by simp [State.takeFault]
  record_at_ip := by simp [State.takeFault]

/-- A Running core has no record. -/
theorem State.Inv.no_record {s : State} (h : s.Inv) (hr : s.run = .running) : s.fault = none := by
  cases hf : s.fault with
  | none => rfl
  | some r =>
    have := h.record_iff_faulted.1 (by rw [hf]; rfl)
    rw [hr] at this
    cases this

/-- An instruction run in the Running state keeps the invariant. -/
theorem exec_inv {i : Instr} {s t : State} (h : s.Inv) (hr : s.run = .running) (he : exec i s = .next t) : t.Inv := by
  have hends := ends_of_exec he
  have hm := hends.mem_wf h.mem_wf
  have hn := h.no_record hr
  obtain ⟨hrun, hfault⟩ | ⟨-, hrun, hfault⟩ | ⟨-, cause, op, rfl⟩ := hends.run_cases
  · exact inv_of_no_record hm (hfault.trans hn) (by simp [hrun, hr])
  · exact inv_of_no_record hm (hfault.trans hn) (by simp [hrun])
  · exact inv_takeFault h.mem_wf cause op none

theorem decodeFailure_inv {e : DecodeError} {s t : State} (h : s.Inv) (he : decodeFailure e s = .next t) : t.Inv := by
  cases e with
  | truncated => cases he
  | unknownOpcode | unresolvableModRM => cases he; exact inv_takeFault h.mem_wf ..

theorem exec_hlt {i : Instr} {s t : State} (hi : i.body = .hlt) (h : exec i s = .next t) : t.run = .halted := by
  rw [exec_body, hi] at h
  cases h
  rfl

theorem all_flagBits_defined (s : State) (i : Instr) : ((flagBits s i).all (definedBits.contains ·)) = true := by
  cases i with
  | rolRm v | rorRm v | rclRm v | rcrRm v | shlRm v | shrRm v | sarRm v =>
    show List.all (if shiftCountOf v s = 0 then [] else _) _ = true
    split <;> rfl
  | into =>
    show List.all (if s.flags.getLsbD 11 then [9, 8] else []) _ = true
    split <;> rfl
  | _ => rfl

/-- The table of R33 gives an instruction defined bits only. -/
theorem flagBits_subset_definedBits (s : State) (i : Instr) : flagBits s i ⊆ definedBits := fun b hm => by
  simpa using List.all_eq_true.1 (all_flagBits_defined s i) b hm

theorem not_mem_definedBits_of_reserved : ∀ b ∈ [1, 3, 5, 12, 13, 14, 15], b ∉ definedBits := by decide

/-- No instruction writes a reserved bit (R34). -/
theorem exec_reserved {i : Instr} {s t : State} {b : Nat} (hb : b ∈ [1, 3, 5, 12, 13, 14, 15])
    (h : exec i s = .next t) : t.flags.getLsbD b = s.flags.getLsbD b :=
  (ends_of_exec h).flag.bit b fun hm => not_mem_definedBits_of_reserved b hb (flagBits_subset_definedBits s _ hm)

end Sys2Proof.Machine

/-! ## The obligations about every instruction and every step -/

open Sys2Proof Sys2Proof.Machine Sys2Proof.Claims

/-- Settles O9: a step keeps the state, runs an instruction (`exec_inv`) or takes the decoder's failure
(`decodeFailure_inv`). -/
theorem stepKeepsInvariant : Obligations.StepKeepsInvariant := by
  intro s t h hstep
  obtain ⟨-, he⟩ | ⟨hr, i, r, -, he⟩ | ⟨-, e, -, he⟩ := step_cases s <;> rw [he] at hstep
  · cases hstep; exact h
  · exact exec_inv h hr hstep
  · exact decodeFailure_inv h hstep

/-- Settles O15: the FLAGS bits in the frame of `execUnder_ends`. -/
theorem flagFrame : Obligations.FlagFrame := fun _ _ _ b h hb => (ends_of_exec h).flag.bit b hb

/-- Settles O16: the register parts in the frame of `execUnder_ends`. -/
theorem registerFrame : Obligations.RegisterFrame := fun _ _ _ _ h hp => (ends_of_exec h).reg hp

/-- Settles O19: without a transfer and a fault an instruction goes on or halts, and both advance IP. -/
theorem ipAdvance : Obligations.IpAdvance := by
  intro i s t h _ hf ht
  have he := ends_of_exec h
  exact ⟨(he.ip hf ht).trans (next_body_len i s), fun hp => he.reg hp⟩

/-- Settles O20: the five ends of `execUnder_ends` are all next states; one halts, two fault. -/
theorem runStateTransitions : Obligations.RunStateTransitions := by
  refine ⟨fun i s => (exec_ends i s).next, fun i s t h hr => ?_⟩
  obtain ⟨hrun, hfault⟩ | ⟨hi, hrun, hfault⟩ | ⟨hi, cause, op, rfl⟩ := (ends_of_exec h).run_cases
  · rw [hr] at hrun
    exact ⟨⟨fun e => by simp [hrun] at e, fun e => exec_hlt e h⟩, fun e => by simp [hrun] at e, fun _ => hfault⟩
  · exact ⟨⟨fun _ => hi, fun _ => hrun⟩, fun e => by simp [hrun] at e, fun _ => hfault⟩
  · refine ⟨⟨nofun, fun e => exec_hlt e h⟩, fun _ => ?_, fun e => absurd rfl e⟩
    rw [operandsOk_body]
    obtain hd | hm := hi
    · generalize i.body = b at hd
      cases hd with
      | div w rm => exact .inl ⟨w, rm, rfl⟩
      | idiv w rm => exact .inr (.inl ⟨w, rm, rfl⟩)
      | aam imm => exact .inr (.inr (.inl ⟨imm, rfl⟩))
    · exact .inr (.inr (.inr hm))

/-- Settles O14: the reserved bits are none of those R33 gives to an instruction, and a fault keeps FLAGS. -/
theorem reservedFlagBitsKept : Obligations.ReservedFlagBitsKept := by
  refine ⟨fun i s t b hb h => exec_reserved hb h, fun s t b hb h => ?_⟩
  obtain ⟨-, he⟩ | ⟨-, i, r, -, he⟩ | ⟨-, e, -, he⟩ := step_cases s <;> rw [he] at h
  · cases h; rfl
  · exact exec_reserved hb h
  · cases e with
    | truncated => cases h
    | unknownOpcode | unresolvableModRM => cases h; rfl
end

section
namespace Sys2Proof.Machine

open Sys2Proof Sys2Proof.Claims

/-! ## IF and TF gate nothing: a second run with other IF and TF (R35) -/

/-! ### Reads that do not see FLAGS, and updates that do not touch them -/

section

variable (s : State) (fl : Word)

@[simp] theorem State.reg8_setFlags (r : RegNum) : (s.setFlags fl).reg8 r = s.reg8 r := by cases r <;> rfl

@[simp] theorem State.reg16_setFlags (r : RegNum) : (s.setFlags fl).reg16 r = s.reg16 r := by cases r <;> rfl

@[simp] theorem State.reg_setFlags (w : Width) (r : RegNum) : (s.setFlags fl).reg w r = s.reg w r := by
  cases w
  · exact s.reg8_setFlags fl r
  · exact s.reg16_setFlags fl r

@[simp] theorem State.sreg_setFlags (r : SReg) : (s.setFlags fl).sreg r = s.sreg r := by cases r <;> rfl

@[simp] theorem State.acc_setFlags (w : Width) : (s.setFlags fl).acc w = s.acc w := s.reg_setFlags fl w .r0

@[simp] theorem State.read_setFlags (w : Width) (sg off : Word) : (s.setFlags fl).read w sg off = s.read w sg off := rfl

@[simp] theorem State.stackTop_setFlags : (s.setFlags fl).stackTop = s.stackTop := rfl

@[simp] theorem State.dividend_setFlags (w : Width) : (s.setFlags fl).dividend w = s.dividend w := by cases w <;> rfl

@[simp] theorem State.readLoc_setFlags (w : Width) (l : Loc) : (s.setFlags fl).readLoc w l = s.readLoc w l := by
  cases l with
  | reg r => exact s.reg_setFlags fl w r
  | mem sg off => rfl

@[simp] theorem Ctx.segment_setFlags (c : Ctx) (r : SReg) : c.segment r (s.setFlags fl) = c.segment r s :=
  s.sreg_setFlags fl _

@[simp] theorem Ctx.loc_setFlags (c : Ctx) (rm : RM) : c.loc rm (s.setFlags fl) = c.loc rm s := by
  cases rm with
  | reg r => rfl
  | direct a => simp [Ctx.loc]
  | mem b d => cases b <;> simp [Ctx.loc, baseOffset]

@[simp] theorem State.setReg8_setFlags (r : RegNum) (v : Byte) :
    (s.setFlags fl).setReg8 r v = (s.setReg8 r v).setFlags fl := by cases r <;> rfl

@[simp] theorem State.setReg16_setFlags (r : RegNum) (v : Word) :
    (s.setFlags fl).setReg16 r v = (s.setReg16 r v).setFlags fl := by cases r <;> rfl

@[simp] theorem State.setReg_setFlags (w : Width) (r : RegNum) (v : BitVec w.bits) :
    (s.setFlags fl).setReg w r v = (s.setReg w r v).setFlags fl := by
  cases w
  · exact s.setReg8_setFlags fl r v
  · exact s.setReg16_setFlags fl r v

@[simp] theorem State.setSreg_setFlags (r : SReg) (v : Word) :
    (s.setFlags fl).setSreg r v = (s.setSreg r v).setFlags fl := by cases r <;> rfl

@[simp] theorem State.write_setFlags (w : Width) (sg off : Word) (v : BitVec w.bits) :
    (s.setFlags fl).write w sg off v = (s.write w sg off v).setFlags fl := rfl

@[simp] theorem State.writeLoc_setFlags (w : Width) (l : Loc) (v : BitVec w.bits) :
    (s.setFlags fl).writeLoc w l v = (s.writeLoc w l v).setFlags fl := s.setFlags_writeLoc w l v fl

@[simp] theorem State.pop16_setFlags : (s.setFlags fl).pop16 = s.pop16.setFlags fl := rfl

@[simp] theorem State.advance_setFlags (c : Ctx) (n : Nat) :
    (s.setFlags fl).advance c n = (s.advance c n).setFlags fl := rfl

@[simp] theorem State.push16_setFlags (v : Word) : (s.setFlags fl).push16 v = (s.push16 v).setFlags fl := rfl

@[simp] theorem State.setAcc_setFlags (w : Width) (v : BitVec w.bits) :
    (s.setFlags fl).setAcc w v = (s.setAcc w v).setFlags fl := s.setReg_setFlags fl w .r0 v

@[simp] theorem State.inPort_setFlags (w : Width) (port : Word) :
    (s.setFlags fl).inPort w port = (s.inPort w port).setFlags fl :=
  (s.portRead w port).setAcc_setFlags fl w _

@[simp] theorem State.portWrite_setFlags (w : Width) (port : Word) (v : BitVec w.bits) :
    (s.setFlags fl).portWrite w port v = (s.portWrite w port v).setFlags fl := rfl

@[simp] theorem State.takeFault_setFlags (cause : FaultCause) (op : Byte) (m : Option Byte) :
    (s.setFlags fl).takeFault cause op m = (s.takeFault cause op m).setFlags fl := rfl

@[simp] theorem pushValue_setFlags (l : Loc) : pushValue l (s.setFlags fl) = pushValue l s := by simp [pushValue]

@[simp] theorem effAddr?_setFlags (rm : RM) : effAddr? rm (s.setFlags fl) = effAddr? rm s := by
  cases rm with
  | reg | direct => rfl
  | mem b => cases b <;> rfl

@[simp] theorem Ctx.farPointer?_setFlags (c : Ctx) (rm : RM) :
    c.farPointer? rm (s.setFlags fl) = c.farPointer? rm s := by
  simp [Ctx.farPointer?]

@[simp] theorem State.setProduct_setFlags (w : Width) (p : Int) :
    (s.setFlags fl).setProduct w p = (s.setProduct w p).setFlags fl := by cases w <;> rfl

@[simp] theorem State.setQuotient_setFlags (w : Width) (q r : BitVec w.bits) :
    (s.setFlags fl).setQuotient w q r = (s.setQuotient w q r).setFlags fl := by cases w <;> rfl

end

/-! ### FLAGS that differ at most in IF and TF -/

/-- The bits of IF and TF (R30). -/
def controlBits : List Nat := [9, 8]

namespace FlagsKept

variable {old new : Word} (h : FlagsKept controlBits old new)

include h

theorem getFlag {f : Flag} (hf : f.bit ∉ controlBits) : getFlag new f = getFlag old f := h.bit _ hf

theorem cond (cc : Cond) : cc.holds new = cc.holds old := by
  simp only [Cond.holds, h.getFlag (f := .cf) (by decide), h.getFlag (f := .zf) (by decide),
    h.getFlag (f := .sf) (by decide), h.getFlag (f := .of) (by decide), h.getFlag (f := .pf) (by decide)]

/-- The low byte holds neither IF nor TF. -/
theorem loByte_eq : loByte new = loByte old := by
  apply BitVec.eq_of_getLsbD_eq
  intro b hb
  rw [getLsbD_loByte, getLsbD_loByte, h.bit b (by simp [controlBits]; omega)]

/-! A computed FLAGS word takes each bit from the operands or from the old word: the two words stay alike. -/

theorem setFlag (f : Flag) (v : Bool) : FlagsKept controlBits (setFlag old f v) (setFlag new f v) where
  bit b hb := by simp only [getLsbD_setFlag, h.bit b hb]

theorem undefFlags (free : Word) (fs : List Flag) :
    FlagsKept controlBits (undefFlags free fs old) (undefFlags free fs new) where
  bit b hb := by simp only [getLsbD_undefFlags, h.bit b hb]

theorem loadFlags (mask v : Word) : FlagsKept controlBits (loadFlags mask v old) (loadFlags mask v new) where
  bit b hb := by simp only [getLsbD_loadFlags, h.bit b hb]

theorem setSZP {n : Nat} (r : BitVec n) : FlagsKept controlBits (setSZP r old) (setSZP r new) where
  bit b hb := by simp only [getLsbD_setSZP, h.bit b hb]

theorem addFlags {n : Nat} (x y : BitVec n) (c : Bool) :
    FlagsKept controlBits (addFlags x y c old) (addFlags x y c new) where
  bit b hb := by simp only [getLsbD_addFlags, h.bit b hb]

theorem subFlags {n : Nat} (x y : BitVec n) (c : Bool) :
    FlagsKept controlBits (subFlags x y c old) (subFlags x y c new) where
  bit b hb := by simp only [getLsbD_subFlags, h.bit b hb]

theorem logicFlags {n : Nat} (r : BitVec n) : FlagsKept controlBits (logicFlags r old) (logicFlags r new) where
  bit b hb := by simp only [getLsbD_logicFlags, h.bit b hb]

theorem shiftFlags {n : Nat} (op : ShiftOp) (c : Nat) (x : BitVec n) (y : Bool × BitVec n) :
    FlagsKept controlBits (op.flags c x y old) (op.flags c x y new) where
  bit b hb := by simp only [getLsbD_shiftFlags, h.bit b hb]

end FlagsKept

/-! ### The relation and its rules -/

/-- `u` is `t` with FLAGS that differ at most in IF and TF. -/
def Agree (t u : State) : Prop := ∃ fl, FlagsKept controlBits t.flags fl ∧ u = t.setFlags fl

namespace Agree

variable {t u : State}

/-- A result that keeps FLAGS and does not see them. -/
theorem keeps {s : State} {fl : Word} (h : FlagsKept controlBits s.flags fl) (hf : t.flags = s.flags)
    (hu : u = t.setFlags fl) : Agree t u :=
  ⟨fl, hf ▸ h, hu⟩

theorem setFlags {fl gl : Word} (h : Agree t u) (hf : FlagsKept controlBits fl gl) :
    Agree (t.setFlags fl) (u.setFlags gl) := by
  obtain ⟨_, _, rfl⟩ := h
  exact ⟨gl, hf, rfl⟩

theorem undef {fs : List Flag} (h : Agree t u) : Agree (t.undef fs) (u.undef fs) := by
  obtain ⟨fl, hfl, rfl⟩ := h
  exact ⟨_, hfl.undefFlags _ fs, rfl⟩

theorem assignFlag {f : Flag} {v : Bool} (h : Agree t u) : Agree (t.assignFlag f v) (u.assignFlag f v) := by
  obtain ⟨fl, hfl, rfl⟩ := h
  exact ⟨_, hfl.setFlag f v, rfl⟩

theorem setReg8 {r : RegNum} {v : Byte} (h : Agree t u) : Agree (t.setReg8 r v) (u.setReg8 r v) := by
  obtain ⟨fl, hfl, rfl⟩ := h
  exact .keeps hfl (by simp) (by simp)

theorem setReg16 {r : RegNum} {v : Word} (h : Agree t u) : Agree (t.setReg16 r v) (u.setReg16 r v) := by
  obtain ⟨fl, hfl, rfl⟩ := h
  exact .keeps hfl (by simp) (by simp)

theorem writeLoc {w : Width} {l : Loc} {v : BitVec w.bits} (h : Agree t u) :
    Agree (t.writeLoc w l v) (u.writeLoc w l v) := by
  obtain ⟨fl, hfl, rfl⟩ := h
  exact .keeps hfl (by simp) (by simp)

theorem setProduct {w : Width} {p : Int} (h : Agree t u) : Agree (t.setProduct w p) (u.setProduct w p) := by
  obtain ⟨fl, hfl, rfl⟩ := h
  exact .keeps hfl (by simp) (by simp)

theorem setQuotient {w : Width} {q r : BitVec w.bits} (h : Agree t u) :
    Agree (t.setQuotient w q r) (u.setQuotient w q r) := by
  obtain ⟨fl, hfl, rfl⟩ := h
  exact .keeps hfl (by simp) (by simp)

theorem advance {c : Ctx} {n : Nat} (h : Agree t u) : Agree (t.advance c n) (u.advance c n) := by
  obtain ⟨fl, hfl, rfl⟩ := h
  exact .keeps hfl rfl rfl

/-! The shared operations: each reads of FLAGS at most the status flags and DF. -/

theorem aluSetFlags {n : Nat} {op : AluOp} {x y : BitVec n} (h : Agree t u) :
    Agree (op.setFlags x y t) (op.setFlags x y u) := by
  obtain ⟨fl, hfl, rfl⟩ := id h
  have hcf := hfl.getFlag (f := .cf) (by decide)
  cases op with
  | add => exact h.setFlags (hfl.addFlags ..)
  | adc => exact h.setFlags (hcf ▸ hfl.addFlags ..)
  | sub | cmp => exact h.setFlags (hfl.subFlags ..)
  | sbb => exact h.setFlags (hcf ▸ hfl.subFlags ..)
  | and | or | xor | test => exact (h.setFlags (hfl.logicFlags _)).undef

theorem alu {op : AluOp} {w : Width} {l : Loc} {y : BitVec w.bits} (h : Agree t u) :
    Agree (t.alu op w l y) (u.alu op w l y) := by
  obtain ⟨fl, hfl, rfl⟩ := id h
  have hcf := hfl.getFlag (f := .cf) (by decide)
  simp only [State.alu, State.readLoc_setFlags, State.setFlags_flags, hcf]
  split
  · exact h.aluSetFlags.writeLoc
  · exact h.aluSetFlags

theorem inc {w : Width} {l : Loc} (h : Agree t u) : Agree (t.inc w l) (u.inc w l) := by
  obtain ⟨fl, hfl, rfl⟩ := id h
  simp only [State.inc, State.readLoc_setFlags, State.setFlags_flags, hfl.getFlag (f := .cf) (by decide)]
  exact (h.setFlags ((hfl.addFlags ..).setFlag ..)).writeLoc

theorem dec {w : Width} {l : Loc} (h : Agree t u) : Agree (t.dec w l) (u.dec w l) := by
  obtain ⟨fl, hfl, rfl⟩ := id h
  simp only [State.dec, State.readLoc_setFlags, State.setFlags_flags, hfl.getFlag (f := .cf) (by decide)]
  exact (h.setFlags ((hfl.subFlags ..).setFlag ..)).writeLoc

theorem neg {w : Width} {l : Loc} (h : Agree t u) : Agree (t.neg w l) (u.neg w l) := by
  obtain ⟨fl, hfl, rfl⟩ := id h
  simp only [State.neg, State.readLoc_setFlags, State.setFlags_flags]
  exact (h.setFlags (hfl.subFlags ..)).writeLoc

theorem shift {op : ShiftOp} {w : Width} {l : Loc} {n : Nat} (h : Agree t u) :
    Agree (t.shift op w l n) (u.shift op w l n) := by
  obtain ⟨fl, hfl, rfl⟩ := id h
  simp only [State.shift, State.readLoc_setFlags, State.setFlags_flags, hfl.getFlag (f := .cf) (by decide)]
  split
  · exact h
  · split
    · exact (h.setFlags (hfl.shiftFlags ..)).writeLoc
    · exact (h.setFlags (hfl.shiftFlags ..)).writeLoc.undef

theorem setProductFlags {big : Bool} (h : Agree t u) : Agree (t.setProductFlags big) (u.setProductFlags big) :=
  h.assignFlag.assignFlag.undef

theorem lowNibbleAdjusts (h : Agree t u) : u.lowNibbleAdjusts = t.lowNibbleAdjusts := by
  obtain ⟨fl, hfl, rfl⟩ := h
  rw [State.lowNibbleAdjusts, State.setFlags_flags, hfl.getFlag (f := .af) (by decide)]
  rfl

theorem highNibbleAdjusts (h : Agree t u) : u.highNibbleAdjusts = t.highNibbleAdjusts := by
  obtain ⟨fl, hfl, rfl⟩ := h
  rw [State.highNibbleAdjusts, State.setFlags_flags, hfl.getFlag (f := .cf) (by decide)]
  rfl

theorem asciiAdjust {six one : Byte} (h : Agree t u) : Agree (t.asciiAdjust six one) (u.asciiAdjust six one) := by
  simp only [State.asciiAdjust, h.lowNibbleAdjusts]
  obtain ⟨fl, hfl, rfl⟩ := id h
  exact (h.setReg16 (r := .r0)).assignFlag.assignFlag.undef

theorem decimalAdjust {six sixty : Byte} (h : Agree t u) :
    Agree (t.decimalAdjust six sixty) (u.decimalAdjust six sixty) := by
  simp only [State.decimalAdjust, h.lowNibbleAdjusts, h.highNibbleAdjusts]
  obtain ⟨fl, hfl, rfl⟩ := id h
  exact (h.setReg8.setFlags (((hfl.setFlag ..).setFlag ..).setSZP _)).undef

theorem setAdjusted {ah al : Byte} (h : Agree t u) : Agree (t.setAdjusted ah al) (u.setAdjusted ah al) := by
  obtain ⟨fl, hfl, rfl⟩ := id h
  exact ((h.setReg16 (r := .r0)).setFlags (hfl.setSZP _)).undef

theorem stringDelta (h : Agree t u) (w : Width) : u.stringDelta w = t.stringDelta w := by
  obtain ⟨fl, hfl, rfl⟩ := h
  simp only [State.stringDelta, State.setFlags_flags, hfl.getFlag (f := .df) (by decide)]

theorem stepSi {w : Width} (h : Agree t u) : Agree (t.stepSi w) (u.stepSi w) := by
  rw [State.stepSi, State.stepSi, h.stringDelta]
  obtain ⟨fl, hfl, rfl⟩ := h
  exact .keeps hfl rfl rfl

theorem stepDi {w : Width} (h : Agree t u) : Agree (t.stepDi w) (u.stepDi w) := by
  rw [State.stepDi, State.stepDi, h.stringDelta]
  obtain ⟨fl, hfl, rfl⟩ := h
  exact .keeps hfl rfl rfl

theorem decCx (h : Agree t u) : Agree t.decCx u.decCx := by
  obtain ⟨fl, hfl, rfl⟩ := h
  exact .keeps hfl rfl rfl

theorem stringOnce {op : StringOp} {w : Width} {c : Ctx} (h : Agree t u) :
    Agree (t.stringOnce op w c) (u.stringOnce op w c) := by
  obtain ⟨fl, hfl, rfl⟩ := id h
  cases op with
  | movs =>
    simp only [State.stringOnce, Ctx.source, Ctx.segment_setFlags]
    exact (h.writeLoc (l := .mem _ _)).stepSi.stepDi
  | lods =>
    simp only [State.stringOnce, Ctx.source, Ctx.segment_setFlags]
    exact (h.writeLoc (l := accLoc)).stepSi
  | cmps =>
    simp only [State.stringOnce, Ctx.source, Ctx.segment_setFlags]
    exact (h.setFlags (hfl.subFlags ..)).stepSi.stepDi
  | scas =>
    simp only [State.stringOnce, State.acc_setFlags]
    exact (h.setFlags (hfl.subFlags ..)).stepDi
  | stos =>
    simp only [State.stringOnce, State.acc_setFlags]
    exact (h.writeLoc (l := .mem _ _)).stepDi

theorem stops (h : Agree t u) (r : Repeat) : r.stops u = r.stops t := by
  obtain ⟨fl, hfl, rfl⟩ := h
  cases r <;> simp only [Repeat.stops, State.setFlags_flags, hfl.getFlag (f := .zf) (by decide)]

theorem stringLoop {op : StringOp} {w : Width} {c : Ctx} {r : Repeat} {n : Nat} (h : Agree t u) :
    Agree (State.stringLoop op w c r n t) (State.stringLoop op w c r n u) := by
  induction n generalizing t u with
  | zero => exact h
  | succ n ih =>
    have h1 : Agree (t.stringOnce op w c).decCx (u.stringOnce op w c).decCx := h.stringOnce.decCx
    rw [State.stringLoop, State.stringLoop, h1.stops]
    split
    · exact h1
    · exact ih h1

end Agree

/-! ### Every instruction that does not push FLAGS -/

/-- Both outcomes are next states, alike but for IF and TF. -/
inductive Alike : Out → Out → Prop
  | next {t u : State} (h : Agree t u) : Alike (.next t) (.next u)

namespace Alike

variable {c : Ctx} {s t u : State} {fl : Word}

theorem inv {o : Out} (h : Alike (.next t) o) : ∃ fl, o = .next (t.setFlags fl) ∧ FlagsKept controlBits t.flags fl := by
  cases h with
  | next hu =>
    obtain ⟨fl, hfl, rfl⟩ := hu
    exact ⟨fl, rfl, hfl⟩

theorem keeps (h : FlagsKept controlBits s.flags fl) (hf : t.flags = s.flags) (hu : u = t.setFlags fl) :
    Alike (.next t) (.next u) :=
  .next (.keeps h hf hu)

theorem aluRmReg {op : AluOp} {d : Dir} {w : Width} {reg : RegNum} {rm : RM} (h : Agree s (s.setFlags fl)) :
    Alike (.next (aluRmReg op d w reg rm c s)) (.next (aluRmReg op d w reg rm c (s.setFlags fl))) := by
  cases d <;> simp only [Machine.aluRmReg, Ctx.loc_setFlags, State.reg_setFlags, State.readLoc_setFlags] <;>
    exact .next h.alu.advance

theorem aluRm8Imm8 {op : AluOp} {rm : RM} {imm : Byte} (h : Agree s (s.setFlags fl)) :
    Alike (.next (aluRm8Imm8 op rm imm c s)) (.next (aluRm8Imm8 op rm imm c (s.setFlags fl))) := by
  simp only [Machine.aluRm8Imm8, Ctx.loc_setFlags]
  exact .next h.alu.advance

theorem aluRm16Imm16 {op : AluOp} {rm : RM} {imm : Word} (h : Agree s (s.setFlags fl)) :
    Alike (.next (aluRm16Imm16 op rm imm c s)) (.next (aluRm16Imm16 op rm imm c (s.setFlags fl))) := by
  simp only [Machine.aluRm16Imm16, Ctx.loc_setFlags]
  exact .next h.alu.advance

theorem aluRm16Imm8 {op : AluOp} {rm : RM} {imm : Byte} (h : Agree s (s.setFlags fl)) :
    Alike (.next (aluRm16Imm8 op rm imm c s)) (.next (aluRm16Imm8 op rm imm c (s.setFlags fl))) := by
  simp only [Machine.aluRm16Imm8, Ctx.loc_setFlags]
  exact .next h.alu.advance

theorem shiftRm {op : ShiftOp} {v : Count} {w : Width} {rm : RM} (h : Agree s (s.setFlags fl)) :
    Alike (.next (shiftRm op v w rm c s)) (.next (shiftRm op v w rm c (s.setFlags fl))) := by
  have hv : (s.setFlags fl).shiftCount v = s.shiftCount v := by cases v <;> rfl
  simp only [Machine.shiftRm, Ctx.loc_setFlags, hv]
  exact .next h.shift.advance

theorem stringExec {op : StringOp} {w : Width} (h : Agree s (s.setFlags fl)) :
    Alike (.next (stringExec op w c s)) (.next (stringExec op w c (s.setFlags fl))) := by
  simp only [Machine.stringExec, State.setFlags_cx]
  split
  · exact .next h.stringOnce.advance
  · exact .next h.stringLoop.advance

theorem finishDivide {w : Width} {rm : RM} {res : Except FaultCause (BitVec w.bits × BitVec w.bits)}
    (h : FlagsKept controlBits s.flags fl) :
    Alike (.next (s.finishDivide w rm c res)) (.next ((s.setFlags fl).finishDivide w rm c res)) := by
  have hs : Agree s (s.setFlags fl) := ⟨fl, h, rfl⟩
  cases res with
  | ok => exact .next hs.setQuotient.undef.advance
  | error => exact .keeps h rfl rfl

/-- A conditional jump reads status flags only (R372). -/
theorem jcc {cc : Cond} {rel : Byte} (h : FlagsKept controlBits s.flags fl) :
    Alike (.next (s.branch c (cc.holds s.flags) rel))
      (.next ((s.setFlags fl).branch c (cc.holds (s.setFlags fl).flags) rel)) := by
  rw [State.setFlags_flags, h.cond]
  exact .keeps h rfl rfl

end Alike

theorem execUnder_alike (c : Ctx) (i : Instr) (s : State) (fl : Word) (h : FlagsKept controlBits s.flags fl)
    (hi : i.prefixes = []) (hr : readsControlFlags s i = false) :
    Alike (execUnder c i s) (execUnder c i (s.setFlags fl)) := by
  have hs : Agree s (s.setFlags fl) := ⟨fl, h, rfl⟩
  cases i with
  | segEs | segCs | segSs | segDs | lock | repne | rep => exact absurd hi (List.cons_ne_nil _ _)
  | pushf | int3 | intImm => cases hr
  | addRmReg | adcRmReg | subRmReg | sbbRmReg | andRmReg | orRmReg | xorRmReg | cmpRmReg | testRmReg =>
    exact .aluRmReg hs
  | addAl | adcAl | subAl | sbbAl | andAl | orAl | xorAl | cmpAl | testAl
  | addAx | adcAx | subAx | sbbAx | andAx | orAx | xorAx | cmpAx | testAx => exact .next hs.alu.advance
  | addRm8Imm8 | adcRm8Imm8 | subRm8Imm8 | sbbRm8Imm8 | andRm8Imm8 | orRm8Imm8 | xorRm8Imm8 | cmpRm8Imm8 | testRm8Imm8
  | addRm8Imm8Alt | adcRm8Imm8Alt | subRm8Imm8Alt | sbbRm8Imm8Alt | andRm8Imm8Alt | orRm8Imm8Alt | xorRm8Imm8Alt
  | cmpRm8Imm8Alt => exact .aluRm8Imm8 hs
  | addRm16Imm16 | adcRm16Imm16 | subRm16Imm16 | sbbRm16Imm16 | andRm16Imm16 | orRm16Imm16 | xorRm16Imm16
  | cmpRm16Imm16 | testRm16Imm16 => exact .aluRm16Imm16 hs
  | addRm16Imm8 | adcRm16Imm8 | subRm16Imm8 | sbbRm16Imm8 | andRm16Imm8 | orRm16Imm8 | xorRm16Imm8 | cmpRm16Imm8 =>
    exact .aluRm16Imm8 hs
  | rolRm | rorRm | rclRm | rcrRm | shlRm | shrRm | sarRm => exact .shiftRm hs
  | movs | cmps | stos | lods | scas => exact .stringExec hs
  | incReg => exact .next hs.inc.advance
  | decReg => exact .next hs.dec.advance
  | incRm =>
    simp only [execUnder_incRm, execIncRm, Ctx.loc_setFlags]
    exact .next hs.inc.advance
  | decRm =>
    simp only [execUnder_decRm, execDecRm, Ctx.loc_setFlags]
    exact .next hs.dec.advance
  | negRm =>
    simp only [execUnder_negRm, execNegRm, Ctx.loc_setFlags]
    exact .next hs.neg.advance
  | mulRm =>
    simp only [execUnder_mulRm, execMulRm, Ctx.loc_setFlags, State.readLoc_setFlags, State.acc_setFlags]
    exact .next hs.setProduct.setProductFlags.advance
  | imulRm =>
    simp only [execUnder_imulRm, execImulRm, Ctx.loc_setFlags, State.readLoc_setFlags, State.acc_setFlags]
    exact .next hs.setProduct.setProductFlags.advance
  | divRm =>
    simp only [execUnder_divRm, execDivRm, Ctx.loc_setFlags, State.readLoc_setFlags, State.dividend_setFlags]
    exact .finishDivide h
  | idivRm =>
    simp only [execUnder_idivRm, execIdivRm, Ctx.loc_setFlags, State.readLoc_setFlags, State.dividend_setFlags]
    exact .finishDivide h
  | daa | das => exact .next hs.decimalAdjust.advance
  | aaa | aas => exact .next hs.asciiAdjust.advance
  | aad => exact .next hs.setAdjusted.advance
  | aam imm =>
    rw [execUnder_aam, execUnder_aam, execAam, execAam]
    split
    · exact .keeps h rfl rfl
    · exact .next hs.setAdjusted.advance
  | clc | stc | cld | std | cli | sti => exact .next hs.assignFlag.advance
  | cmc =>
    rw [execUnder_cmc, execUnder_cmc, execCmc, execCmc, State.setFlags_flags, h.getFlag (f := .cf) (by decide)]
    exact .next hs.assignFlag.advance
  | sahf => exact .next (hs.setFlags (h.loadFlags ..)).advance
  | popf => exact .next ((hs.setReg16 (r := .r4)).setFlags (h.loadFlags ..)).advance
  | iret => exact .next ⟨_, h.loadFlags .., rfl⟩
  | lahf =>
    rw [execUnder_lahf, execUnder_lahf, execLahf, execLahf, State.setFlags_flags, h.loByte_eq]
    exact .next hs.setReg8.advance
  | into =>
    have hof : ¬ getFlag s.flags .of = true := by rw [show getFlag s.flags .of = false from hr]; decide
    rw [execUnder_into, execUnder_into, execInto, execInto, State.setFlags_flags, h.getFlag (f := .of) (by decide),
      if_neg hof, if_neg hof]
    exact .keeps h rfl rfl
  | jo | jno | jb | jnb | jz | jnz | jbe | jnbe | js | jns | jp | jnp | jl | jnl | jle | jnle => exact .jcc h
  | loopz =>
    rw [execUnder_loopz, execUnder_loopz, execLoopz, execLoopz, State.setFlags_flags,
      h.getFlag (f := .zf) (by decide)]
    exact .keeps h rfl rfl
  | loopnz =>
    rw [execUnder_loopnz, execUnder_loopnz, execLoopnz, execLoopnz, State.setFlags_flags,
      h.getFlag (f := .zf) (by decide)]
    exact .keeps h rfl rfl
  | loop | jcxz | jmpShort | jmpRel | jmpFar | callRel | callFar | ret | retImm | retf | retfImm | nop | wait | esc
  | hlt | pushEs | pushCs | pushSs | pushDs | popEs | popSs | popDs | cbw | cwd
  | xchgAxCx | xchgAxDx | xchgAxBx | xchgAxSp | xchgAxBp | xchgAxSi | xchgAxDi => exact .keeps h rfl rfl
  | lea =>
    simp only [execUnder_lea, execLea, effAddr?_setFlags]
    split <;> exact .keeps h (by simp) (by simp)
  | les =>
    simp only [execUnder_les, execLes, Ctx.farPointer?_setFlags]
    split <;> exact .keeps h (by simp) (by simp)
  | lds =>
    simp only [execUnder_lds, execLds, Ctx.farPointer?_setFlags]
    split <;> exact .keeps h (by simp) (by simp)
  | jmpFarRm =>
    simp only [execUnder_jmpFarRm, execJmpFarRm, Ctx.farPointer?_setFlags]
    split <;> exact .keeps h rfl rfl
  | callFarRm =>
    simp only [execUnder_callFarRm, execCallFarRm, Ctx.farPointer?_setFlags]
    split <;> exact .keeps h rfl rfl
  | movRmReg d =>
    cases d <;> exact .keeps h (by simp) (by simp)
  | callRm | jmpRm => exact .keeps h rfl (by simp; rfl)
  | notRm | movReg8Imm | movReg16Imm | movRm8Imm8 | movRm16Imm16 | movAccMoffs | movMoffsAcc | movRmSreg | movSregRm
  | pushReg | pushRm | popReg | popRm | xchgRmReg | inImm | inDx | outImm | outDx | xlat =>
    exact .keeps h (by simp) (by simp)

end Sys2Proof.Machine

open Sys2Proof Sys2Proof.Machine Sys2Proof.Claims

/-- Settles O22: two runs that differ in IF and TF stay alike but for these bits (`execUnder_alike`). -/
theorem controlFlagsGateNothing : Obligations.ControlFlagsGateNothing := by
  intro i s t fl hr hfl h
  have hk : FlagsKept controlBits s.flags fl := ⟨fun b hb => by
    simp only [controlBits, List.mem_cons, List.not_mem_nil, or_false, not_or] at hb
    exact hfl b hb.2 hb.1⟩
  have ha := execUnder_alike (Ctx.ofPrefixes i.prefixes) i.body s fl hk (body_prefixes i) hr
  rw [← exec_body, ← exec_body, h] at ha
  obtain ⟨fl', he, hkept⟩ := ha.inv
  exact ⟨fl', he, fun b h8 h9 => hkept.bit b (by simp [controlBits, h8, h9])⟩
end

section
namespace Sys2Proof

open Sys2Proof.Laws

/-! ## Decoding an encoding (R128, R129) -/

/-- The bytes of `i` begin with an opcode byte and decode to `i`, whatever follows. -/
def Decodes (i : Instr) : Prop :=
  ∀ rest, ∃ op bs, encode i ++ rest = op :: bs ∧ prefixOf op = none ∧ decodeBody op bs = .ok (i, rest)

theorem decode_of_decodes {i : Instr} (h : Decodes i) (rest : List Byte) :
    decode (encode i ++ rest) = .ok (i, rest) := by
  obtain ⟨op, bs, he, hp, hd⟩ := h rest
  rw [he, decode, hp]
  exact hd

theorem encodable_of_operandsOk {i : Instr} {rm : RM} (hr : i.rm? = some rm) (h : i.operandsOk = true) :
    rm.encodable = true := by
  rw [Instr.operandsOk, hr] at h
  exact (Bool.and_eq_true_iff.1 h).1

theorem mod_ne_of_operandsOk {i : Instr} {rm : RM} (hr : i.rm? = some rm) (hm : i.memoryOnly = true)
    (h : i.operandsOk = true) : (rm.mod == 3) = false := by
  rw [Instr.operandsOk, hr, hm] at h
  rcases rm with _ | _ | ⟨_, _ | _ | _⟩
  · cases h
  all_goals rfl

/-- A row whose opcode byte is followed by a ModRM operand. -/
theorem decodeBody_modRM {op : Byte} {reg : RegNum} {rm : RM} {r : List Byte} {res : DecodeResult}
    (k : ModRM → List Byte → DecodeResult) (hd : ∀ bs, decodeBody op bs = withModRM op bs k)
    (he : rm.encodable = true) (hl : modRMIllegal op rm.mod reg.bits = false)
    (hk : k ⟨modRMByte rm.mod reg.bits rm.rmBits, rm⟩ r = res) : decodeBody op (encodeModRM reg rm ++ r) = res := by
  rw [hd, withModRM_encodeModRM op reg rm he hl, hk]

section

variable {op : Byte} {reg : RegNum} {rm : RM} {rest : List Byte}

theorem decodeBody_reg {C : RegNum → RM → Instr}
    (hd : ∀ bs, decodeBody op bs = withModRM op bs fun x r => .ok (C x.reg x.rm, r))
    (he : rm.encodable = true) (hl : modRMIllegal op rm.mod reg.bits = false) :
    decodeBody op (encodeModRM reg rm ++ rest) = .ok (C reg rm, rest) :=
  decodeBody_modRM _ hd he hl (by rw [ModRM.reg_modRMByte])

theorem decodeBody_sreg {sr : SReg} {C : SReg → RM → Instr}
    (hd : ∀ bs, decodeBody op bs = withModRM op bs fun x r => .ok (C x.sreg x.rm, r))
    (he : rm.encodable = true) (hl : modRMIllegal op rm.mod sr.num.bits = false) :
    decodeBody op (encodeModRM sr.num rm ++ rest) = .ok (C sr rm, rest) :=
  decodeBody_modRM _ hd he hl (by rw [ModRM.sreg_modRMByte])

theorem decodeBody_imm8 {imm : Byte} {C : RegNum → RM → Byte → Instr}
    (hd : ∀ bs, decodeBody op bs = withModRM op bs fun x r => withByte r fun imm r => .ok (C x.reg x.rm imm, r))
    (he : rm.encodable = true) (hl : modRMIllegal op rm.mod reg.bits = false) :
    decodeBody op (encodeModRM reg rm ++ [imm] ++ rest) = .ok (C reg rm imm, rest) := by
  rw [List.append_assoc]
  exact decodeBody_modRM _ hd he hl (by rw [ModRM.reg_modRMByte]; rfl)

theorem decodeBody_imm16 {imm : Word} {C : RegNum → RM → Word → Instr}
    (hd : ∀ bs, decodeBody op bs = withModRM op bs fun x r => withWord r fun imm r => .ok (C x.reg x.rm imm, r))
    (he : rm.encodable = true) (hl : modRMIllegal op rm.mod reg.bits = false) :
    decodeBody op (encodeModRM reg rm ++ wordBytes imm ++ rest) = .ok (C reg rm imm, rest) := by
  rw [List.append_assoc]
  exact decodeBody_modRM _ hd he hl (by rw [ModRM.reg_modRMByte, withWord_wordBytes])

/-- A row that the reg field of the ModRM byte selects from a group (R125). -/
theorem decodeBody_group {r : List Byte} {res : DecodeResult} (group : ModRM → List Byte → DecodeResult)
    (hd : ∀ bs, decodeBody op bs = withModRM op bs group) (he : rm.encodable = true)
    (hl : modRMIllegal op rm.mod reg.bits = false) (hg : ∀ x : ModRM, x.reg = reg → x.rm = rm → group x r = res) :
    decodeBody op (encodeModRM reg rm ++ r) = res :=
  decodeBody_modRM _ hd he hl (hg _ (ModRM.reg_modRMByte ..) rfl)

/-- A row whose opcode byte is followed by a word. -/
theorem decodeBody_word {v : Word} {C : Word → Instr}
    (hd : ∀ bs, decodeBody op bs = withWord bs fun v r => .ok (C v, r)) :
    decodeBody op (wordBytes v ++ rest) = .ok (C v, rest) := by
  rw [hd, withWord_wordBytes]

/-- A row whose opcode byte is followed by an offset and a segment. -/
theorem decodeBody_far {off seg : Word} {C : Word → Word → Instr}
    (hd : ∀ bs, decodeBody op bs = withWord bs fun off r => withWord r fun seg r => .ok (C off seg, r)) :
    decodeBody op (wordBytes off ++ wordBytes seg ++ rest) = .ok (C off seg, rest) := by
  rw [hd, List.append_assoc, withWord_wordBytes, withWord_wordBytes]

end

/-- Every row of the dispatch table reads back what the encoder lays out (R124, R125). -/
theorem decodes_of_operandsOk (i : Instr) (hi : i.prefixes = []) (ok : i.operandsOk = true) : Decodes i := by
  intro rest
  have enc {rm : RM} (hr : i.rm? = some rm) := encodable_of_operandsOk hr ok
  cases i with
  | segEs | segCs | segSs | segDs | lock | repne | rep => exact absurd hi (List.cons_ne_nil _ _)
  | addRmReg d w | adcRmReg d w | subRmReg d w | sbbRmReg d w | andRmReg d w | orRmReg d w | xorRmReg d w
  | cmpRmReg d w | movRmReg d w =>
    cases d <;> cases w <;> exact ⟨_, _, rfl, rfl, decodeBody_reg (fun _ => rfl) (enc rfl) rfl⟩
  | testRmReg w | xchgRmReg w =>
    cases w <;> exact ⟨_, _, rfl, rfl, decodeBody_reg (fun _ => rfl) (enc rfl) rfl⟩
  | esc high => cases high <;> exact ⟨_, _, rfl, rfl, decodeBody_reg (fun _ => rfl) (enc rfl) rfl⟩
  | lea | les | lds =>
    exact ⟨_, _, rfl, rfl, decodeBody_reg (fun _ => rfl) (enc rfl) (mod_ne_of_operandsOk rfl rfl ok)⟩
  | movRmSreg sr =>
    cases sr <;> exact ⟨_, _, rfl, rfl, decodeBody_sreg (C := .movRmSreg) (fun _ => rfl) (enc rfl) rfl⟩
  | movSregRm sr =>
    cases sr <;> exact ⟨_, _, rfl, rfl, decodeBody_sreg (C := .movSregRm) (fun _ => rfl) (enc rfl) rfl⟩
  | popRm => exact ⟨_, _, rfl, rfl, decodeBody_reg (C := fun _ => .popRm) (fun _ => rfl) (enc rfl) rfl⟩
  | addRm8Imm8 | adcRm8Imm8 | subRm8Imm8 | sbbRm8Imm8 | andRm8Imm8 | orRm8Imm8 | xorRm8Imm8 | cmpRm8Imm8 =>
    exact ⟨_, _, rfl, rfl, decodeBody_imm8 (C := group1Rm8Imm8) (fun _ => rfl) (enc rfl) rfl⟩
  | addRm8Imm8Alt | adcRm8Imm8Alt | subRm8Imm8Alt | sbbRm8Imm8Alt | andRm8Imm8Alt | orRm8Imm8Alt | xorRm8Imm8Alt
  | cmpRm8Imm8Alt =>
    exact ⟨_, _, rfl, rfl, decodeBody_imm8 (C := group1Rm8Imm8Alt) (fun _ => rfl) (enc rfl) rfl⟩
  | addRm16Imm8 | adcRm16Imm8 | subRm16Imm8 | sbbRm16Imm8 | andRm16Imm8 | orRm16Imm8 | xorRm16Imm8 | cmpRm16Imm8 =>
    exact ⟨_, _, rfl, rfl, decodeBody_imm8 (C := group1Rm16Imm8) (fun _ => rfl) (enc rfl) rfl⟩
  | addRm16Imm16 | adcRm16Imm16 | subRm16Imm16 | sbbRm16Imm16 | andRm16Imm16 | orRm16Imm16 | xorRm16Imm16
  | cmpRm16Imm16 =>
    exact ⟨_, _, rfl, rfl, decodeBody_imm16 (C := group1Rm16Imm16) (fun _ => rfl) (enc rfl) rfl⟩
  | movRm8Imm8 => exact ⟨_, _, rfl, rfl, decodeBody_imm8 (C := fun _ => .movRm8Imm8) (fun _ => rfl) (enc rfl) rfl⟩
  | movRm16Imm16 => exact ⟨_, _, rfl, rfl, decodeBody_imm16 (C := fun _ => .movRm16Imm16) (fun _ => rfl) (enc rfl) rfl⟩
  | testRm8Imm8 rm imm =>
    refine ⟨_, _, rfl, rfl, (congrArg _ (List.append_assoc ..)).trans ?_⟩
    exact decodeBody_group _ (fun _ => rfl) (enc rfl) rfl fun x hx hr => by rw [group3, hx, hr]; rfl
  | testRm16Imm16 rm imm =>
    refine ⟨_, _, rfl, rfl, (congrArg _ (List.append_assoc ..)).trans ?_⟩
    exact decodeBody_group _ (fun _ => rfl) (enc rfl) rfl fun x hx hr => by
      rw [group3, hx, hr]; exact withWord_wordBytes ..
  | rolRm v w | rorRm v w | rclRm v w | rcrRm v w | shlRm v w | shrRm v w | sarRm v w =>
    cases v <;> cases w <;>
      exact ⟨_, _, rfl, rfl, decodeBody_group _ (fun _ => rfl) (enc rfl) rfl fun x hx hr => by
        rw [group2, hx, hr]; rfl⟩
  | notRm w | negRm w | mulRm w | imulRm w | divRm w | idivRm w =>
    cases w <;>
      exact ⟨_, _, rfl, rfl, decodeBody_group _ (fun _ => rfl) (enc rfl) rfl fun x hx hr => by
        rw [group3, hx, hr]; rfl⟩
  | incRm w | decRm w =>
    cases w with
    | byte =>
      exact ⟨_, _, rfl, rfl, decodeBody_group _ (fun _ => rfl) (enc rfl) rfl fun x hx hr => by rw [group4, hx, hr]⟩
    | word =>
      exact ⟨_, _, rfl, rfl, decodeBody_group _ (fun _ => rfl) (enc rfl) rfl fun x hx hr => by rw [group5, hx, hr]⟩
  | callRm | jmpRm | pushRm =>
    exact ⟨_, _, rfl, rfl, decodeBody_group _ (fun _ => rfl) (enc rfl) rfl fun x hx hr => by rw [group5, hx, hr]⟩
  | callFarRm | jmpFarRm =>
    exact ⟨_, _, rfl, rfl, decodeBody_group _ (fun _ => rfl) (enc rfl) (mod_ne_of_operandsOk rfl rfl ok)
      fun x hx hr => by rw [group5, hx, hr]⟩
  | addAx | adcAx | subAx | sbbAx | andAx | orAx | xorAx | cmpAx | testAx | retImm | retfImm | callRel | jmpRel =>
    exact ⟨_, _, rfl, rfl, decodeBody_word fun _ => rfl⟩
  | movAccMoffs w | movMoffsAcc w => cases w <;> exact ⟨_, _, rfl, rfl, decodeBody_word fun _ => rfl⟩
  | movReg16Imm r => cases r <;> exact ⟨_, _, rfl, rfl, decodeBody_word fun _ => rfl⟩
  | callFar | jmpFar => exact ⟨_, _, rfl, rfl, decodeBody_far fun _ => rfl⟩
  | incReg r | decReg r | pushReg r | popReg r | movReg8Imm r => cases r <;> exact ⟨_, _, rfl, rfl, rfl⟩
  | movs w | cmps w | stos w | lods w | scas w | inImm w | inDx w | outImm w | outDx w =>
    cases w <;> exact ⟨_, _, rfl, rfl, rfl⟩
  | _ => exact ⟨_, _, rfl, rfl, rfl⟩

theorem dispLen_le (rm : RM) : rm.dispLen ≤ 2 := by
  rcases rm with _ | _ | ⟨_, _ | _ | _⟩ <;> simp [RM.dispLen]

end Sys2Proof

namespace Sys2Proof.Machine

/-- An instruction without prefixes has at most six bytes (R100). -/
theorem len_le_maxBodyLen (i : Instr) (hi : i.prefixes = []) : i.len ≤ maxBodyLen := by
  have hd (rm : RM) := dispLen_le rm
  cases i with
  | segEs | segCs | segSs | segDs | lock | repne | rep => exact absurd hi (List.cons_ne_nil _ _)
  | _ =>
    simp only [Instr.len, maxBodyLen]
    grind

/-- The bytes of `bs` lie in memory from `a` upward, modulo 2^20 (R78). -/
def Memory.Holds (m : Memory) (a : PAddr) (bs : List Byte) : Prop :=
  ∀ k b, bs[k]? = some b → m.byteAt (a + BitVec.ofNat 20 k) = b

namespace Memory.Holds

variable {m : Memory} {a : PAddr} {xs ys : List Byte}

theorem left (h : m.Holds a (xs ++ ys)) : m.Holds a xs := fun k b hk =>
  h k b (by rw [List.getElem?_append_left (List.getElem?_eq_some_iff.1 hk).1, hk])

theorem right (h : m.Holds a (xs ++ ys)) : m.Holds (a + BitVec.ofNat 20 xs.length) ys := fun k b hk => by
  rw [BitVec.add_assoc, ← BitVec.ofNat_add]
  exact h _ b (by rw [List.getElem?_append_right (Nat.le_add_right ..), Nat.add_sub_cancel_left, hk])

theorem byte_head {b : Byte} (h : m.Holds a (b :: xs)) : m.byteAt a = b := by
  simpa using h 0 b rfl

/-- Prefix bytes in memory are fetched in order. -/
theorem fetch_prefixes {ps : List Prefix} (h : m.Holds a (ps.map Prefix.byte)) (n : Nat) :
    m.fetch (ps.length + n) a = ps.map Prefix.byte ++ m.fetch n (a + BitVec.ofNat 20 ps.length) :=
  m.fetch_prefixes ps n a fun k p hk => h k p.byte (by rw [List.getElem?_map, hk]; rfl)

end Memory.Holds

theorem encode_eq_prefixes_append (i : Instr) : encode i = i.prefixes.map Prefix.byte ++ encode i.body := by
  conv_lhs => rw [← Instr.body_withPrefixes i, encode_withPrefixes]

/-- An instruction without prefixes in memory is fetched up to its last byte, and more may follow (R100). -/
theorem fetch_encode_body {i : Instr} (hi : i.prefixes = []) (ok : i.operandsOk = true) {m : Memory} {a : PAddr}
    (h : m.Holds a (encode i)) (n : Nat) : ∃ r, m.fetch (n + 1) a = encode i ++ r := by
  have hlen : (encode i).length ≤ maxBodyLen := (Laws.Length.all i).trans_le (len_le_maxBodyLen i hi)
  obtain ⟨op, bs, hcons, hop, -⟩ := decodes_of_operandsOk i hi ok []
  rw [List.append_nil] at hcons
  have hhead : m.Holds a (op :: bs) := hcons ▸ h
  have hfirst : prefixOf (m.byteAt a) = none := by rw [hhead.byte_head, hop]
  exact ⟨_, (m.fetch_body n a hfirst).trans (m.bytes_eq_append _ _ a hlen h)⟩

/-- The bytes of an encoding at `a` decode to the instruction, whatever lies behind them (R78, R102). -/
theorem decode_fetch_encode {i : Instr} (hi : i.wf = true) {m : Memory} {a : PAddr} (h : m.Holds a (encode i)) :
    ∃ r, decode (m.fetch memSize a) = .ok (i, r) := by
  obtain ⟨hok, hps⟩ := Bool.and_eq_true_iff.1 hi
  rw [operandsOk_body] at hok
  have hcount : i.prefixes.length < memSize := i.prefixes_length ▸ of_decide_eq_true hps
  obtain ⟨n, hn⟩ := Nat.exists_eq_add_of_lt hcount
  rw [encode_eq_prefixes_append] at h
  have hbody := h.right
  rw [List.length_map] at hbody
  obtain ⟨r, hr⟩ := fetch_encode_body (body_prefixes i) hok hbody n
  rw [hn, Nat.add_assoc, h.left.fetch_prefixes, hr, decode_prefixes,
    decode_of_decodes (decodes_of_operandsOk i.body (body_prefixes i) hok)]
  dsimp only
  rw [Instr.body_withPrefixes]
  exact ⟨r, rfl⟩

end Sys2Proof.Machine

open Sys2Proof Sys2Proof.Machine

/-- Settles O7: the bytes at CS:IP decode to the instruction (`decode_fetch_encode`); a stopped core does nothing. -/
theorem stepRunsDecodedInstruction : Obligations.StepRunsDecodedInstruction := by
  refine ⟨fun i s hi hr h => ?_, step_of_stopped⟩
  obtain ⟨r, hd⟩ := decode_fetch_encode hi h
  exact step_of_decode s i r hr hd
end

section
namespace Sys2Proof.Machine

open Sys2Proof

/-! ## Half registers and single flags -/

theorem getLsbD_lowHalf : ∀ k : Fin 16, (0x00FF : Word).getLsbD k = decide (k < 8) := by decide

theorem getLsbD_highHalf : ∀ k : Fin 16, (0xFF00 : Word).getLsbD k = !decide (k < 8) := by decide

/-- Writing a low half masks it out and puts the byte in (R23). -/
theorem withLo_eq_or (x : Word) (v : Byte) : withLo x v = (x &&& 0xFF00) ||| v.setWidth 16 := by
  apply BitVec.eq_of_getLsbD_eq
  intro k hk
  have hmask : (0xFF00 : Word).getLsbD k = !decide (k < 8) := getLsbD_highHalf ⟨k, hk⟩
  rw [withLo, getLsbD_mkWord, getLsbD_hiByte, BitVec.getLsbD_or, BitVec.getLsbD_and, hmask, BitVec.getLsbD_setWidth]
  by_cases h : k < 8
  · simp [h, hk]
  · have h8 : k - 8 < 8 := by omega
    have hv : v.getLsbD k = false := BitVec.getLsbD_of_ge v k (by omega)
    rw [if_neg h, hv, Nat.add_sub_cancel' (by omega)]
    simp [h, h8]

/-- Writing a high half masks it out and puts the byte in, eight places up (R23). -/
theorem withHi_eq_or (x : Word) (v : Byte) : withHi x v = (x &&& 0x00FF) ||| (v.setWidth 16 <<< 8) := by
  apply BitVec.eq_of_getLsbD_eq
  intro k hk
  have hmask : ((0x00FF : Nat) : Word).getLsbD k = decide (k < 8) := getLsbD_lowHalf ⟨k, hk⟩
  rw [withHi, getLsbD_mkWord, getLsbD_loByte, BitVec.getLsbD_or, BitVec.getLsbD_and, hmask, BitVec.getLsbD_shiftLeft,
    BitVec.getLsbD_setWidth]
  by_cases h : k < 8
  · simp [h]
  · have h16 : k - 8 < 16 := by omega
    simp [h, hk, h16]

/-- A flag is 1 exactly when FLAGS meets its mask (R31). -/
theorem getFlag_iff_and_mask (fl : Word) (f : Flag) : getFlag fl f = true ↔ fl &&& f.mask ≠ 0 := by
  rw [getFlag, Flag.mask, BitVec.and_twoPow]
  have hmask : BitVec.twoPow 16 f.bit ≠ 0#16 := fun h0 => by
    simpa [f.bit_lt] using congrArg (BitVec.getLsbD · f.bit) h0
  cases fl.getLsbD f.bit <;> simp [hmask]

end Sys2Proof.Machine

open Sys2Proof Sys2Proof.Machine Sys2Proof.Claims

/-- Settles O10: none of the three has a fault record, and a load keeps memory canonical. -/
theorem resetHasInvariant : Obligations.ResetHasInvariant := by
  refine ⟨inv_of_no_record rfl rfl nofun, rfl, fun s cs ip seed hm => inv_of_no_record hm rfl nofun, ?_⟩
  intro s a bs h
  exact ⟨Memory.wf_load a bs h.mem_wf, h.record_iff_faulted, h.record_at_ip⟩

/-- Settles O11: field by field, the definition of `State.start`. -/
theorem startSetsRegisters : Obligations.StartSetsRegisters := by
  intro s cs ip seed
  exact ⟨rfl, rfl, rfl, rfl, rfl, rfl, rfl, rfl, rfl, rfl, rfl, rfl, rfl, rfl, rfl, rfl, rfl⟩

/-- Settles O24: the halves read by `State.reg16_halves`, written by `withLo_eq_or` and `withHi_eq_or`. -/
theorem registerAccess : Obligations.RegisterAccess := by
  intro s
  refine ⟨s.reg16_halves, rfl, fun v => ?_, fun v => ⟨rfl, rfl, rfl, rfl, rfl, rfl, rfl, rfl⟩⟩
  simp only [← withLo_eq_or, ← withHi_eq_or]
  exact ⟨rfl, rfl, rfl, rfl, rfl, rfl, rfl, rfl⟩

/-- Settles O25: set and clear are the definition; the read-backs are the laws of `setFlag`. -/
theorem flagAccess : Obligations.FlagAccess := by
  refine ⟨rfl, fun fl f v => ⟨rfl, rfl, getFlag_iff_and_mask fl f, getFlag_setFlag_same fl f v, fun g hg => ?_,
    fun b hb => ?_⟩⟩
  · rw [getFlag_setFlag, if_neg hg]
  · rw [getLsbD_setFlag, if_neg hb]
end

section
namespace Sys2Proof.Machine

open Sys2Proof Sys2Proof.Claims

/-! ## The memory layer: addresses and accesses of either width (R62 to R64) -/

theorem phys_toNat (seg off : Word) : (phys seg off).toNat = (seg.toNat * 16 + off.toNat) % 0x100000 := by
  have hseg : seg.toNat % 2 ^ 20 = seg.toNat := Nat.mod_eq_of_lt (by omega)
  have hoff : off.toNat % 2 ^ 20 = off.toNat := Nat.mod_eq_of_lt (by omega)
  rw [phys, BitVec.toNat_add, BitVec.toNat_shiftLeft, BitVec.toNat_setWidth, BitVec.toNat_setWidth, hseg, hoff,
    Nat.shiftLeft_eq, Nat.mod_add_mod]

theorem mkWord_toNat (h l : Byte) : (mkWord h l).toNat = l.toNat + 0x100 * h.toNat := by
  rw [mkWord, BitVec.toNat_append, ← Nat.shiftLeft_add_eq_or_of_lt l.isLt, Nat.shiftLeft_eq]
  omega

theorem loByte_eq_setWidth (v : Word) : loByte v = v.setWidth 8 := by
  apply BitVec.eq_of_getLsbD_eq
  intro k _
  rw [getLsbD_loByte, BitVec.getLsbD_setWidth]

theorem hiByte_eq_setWidth (v : Word) : hiByte v = (v >>> 8).setWidth 8 := by
  apply BitVec.eq_of_getLsbD_eq
  intro k _
  rw [getLsbD_hiByte, BitVec.getLsbD_setWidth, BitVec.getLsbD_ushiftRight]

/-- A word write puts the low byte at its address and the high byte at the next (R64). -/
theorem Memory.byteAt_write_word (m : Memory) (a x : PAddr) (v : Word) :
    (m.write .word a v).byteAt x = if x = a then loByte v else if x = a + 1 then hiByte v else m.byteAt x := by
  rw [Memory.write, Memory.byteAt_setByte, Memory.byteAt_setByte]
  by_cases hx : x = a
  · subst hx
    rw [if_neg (PAddr.succ_ne x).symm, if_pos rfl, if_pos rfl]
  · rw [if_neg hx, if_neg hx]

end Sys2Proof.Machine

open Sys2Proof Sys2Proof.Machine Sys2Proof.Claims

/-- Settles O23: the address by `phys_toNat`, the accesses by the laws of single bytes. -/
theorem memoryAccess : Obligations.MemoryAccess := by
  refine ⟨phys_toNat, Memory.byteAt_setByte, fun _ _ => rfl, fun _ _ => mkWord_toNat .., fun m a x v => ?_, rfl⟩
  rw [Memory.byteAt_write_word, loByte_eq_setWidth, hiByte_eq_setWidth]
end

section
namespace Sys2Proof.Machine

open Sys2Proof Sys2Proof.Claims

/-! ## The words of the claims and those of the meanings -/

/-- The last override is the segment the prefixes leave in force (R102). -/
theorem segovr_ofPrefixes (ps : List Prefix) : (Ctx.ofPrefixes ps).segovr = lastSegment ps := by
  rw [Ctx.ofPrefixes_segovr, lastSegment]
  congr 2
  funext p
  cases p <;> rfl

theorem segment_ofPrefixes (ps : List Prefix) (dflt : SReg) (s : State) :
    (Ctx.ofPrefixes ps).segment dflt s = segmentOf ps dflt s := by
  rw [Ctx.segment, segovr_ofPrefixes, segmentOf]

/-- A repetition prefix as the claims write it: `true` is REPE, `false` REPNE. -/
def Repeat.isRepe : Repeat → Bool
  | .repe => true
  | .repne => false

/-- The last repeat prefix is the repetition in force (R102). -/
theorem rep_ofPrefixes (ps : List Prefix) : (Ctx.ofPrefixes ps).rep.map Repeat.isRepe = lastRepeat ps := by
  rw [Ctx.ofPrefixes_rep, lastRepeat, ← List.getLast?_map, List.map_filterMap]
  congr 2
  funext p
  cases p <;> rfl

theorem stringDelta_eq_delta (s : State) (w : Width) : s.stringDelta w = delta w s := by
  cases hdf : s.flags.getLsbD 10 <;> cases w <;> simp only [State.stringDelta, delta, getFlag, Flag.bit, hdf] <;> rfl

/-- The two names of the bytes of an access. -/
theorem touched_eq_accessBytes (w : Width) (a : PAddr) : touched w a = accessBytes w a := by
  cases w <;> rfl

/-! ### The bytes of the stack slots and of the string elements -/

/-- The slot below SP, then those below it (R209). -/
theorem slots_succ (k : Nat) (s : State) :
    slots (k + 1) s = touched .word (phys s.ss (s.sp - 2)) ++ slots k { s with sp := s.sp - 2 } := by
  rw [slots, List.range_succ_eq_map, List.flatMap_cons, List.flatMap_map]
  congr 2
  funext j
  have hsp : s.sp - BitVec.ofNat 16 (2 * (j + 1 + 1)) = s.sp - 2 - BitVec.ofNat 16 (2 * (j + 1)) := by bv_omega
  rw [Nat.succ_eq_add_one, hsp]

/-- The bytes of `n` string elements from ES:DI on, in the direction of DF (R341, R342). -/
def elements (w : Width) (n : Nat) (s : State) : List PAddr :=
  (List.range n).flatMap fun j => touched w (phys s.es (s.di + BitVec.ofNat 16 j * delta w s))

/-- The element at ES:DI, then those behind it. -/
theorem elements_succ (w : Width) (n : Nat) (s : State) :
    elements w (n + 1) s = touched w (phys s.es s.di) ++ elements w n { s with di := s.di + delta w s } := by
  rw [elements, List.range_succ_eq_map, List.flatMap_cons, List.flatMap_map]
  congr 2
  · simp
  · funext j
    have hdi : s.di + BitVec.ofNat 16 (j + 1) * delta w s = s.di + delta w s + BitVec.ofNat 16 j * delta w s := by
      rw [BitVec.ofNat_add, BitVec.add_mul, BitVec.one_mul, BitVec.add_assoc, BitVec.add_comm (delta w s)]
    rw [Nat.succ_eq_add_one, hdi]
    rfl

theorem stringBytes_eq_elements (ps : List Prefix) (w : Width) (s : State) :
    stringBytes ps w s = elements w (if (lastRepeat ps).isSome then s.cx.toNat else 1) s := rfl

/-! ## What an operation stores to

`Touches bs s t` says that from `s` to `t` memory changes at most in the bytes `bs`, and the I/O history not at all.
Each operation that stores has one rule below; the rest change neither. -/

/-- From `s` to `t` every byte outside `bs` and the I/O history are kept. -/
structure Touches (bs : List PAddr) (s t : State) : Prop where
  byte : ∀ a, a ∉ bs → t.mem.byteAt a = s.mem.byteAt a
  io : t.io = s.io

namespace Touches

variable {bs : List PAddr} {s t u : State}

theorem keeps (h : Touches bs s t) (hm : u.mem = t.mem) (hio : u.io = t.io) : Touches bs s u where
  byte a ha := by rw [hm, h.byte a ha]
  io := hio.trans h.io

theorem refl : Touches bs s s := ⟨fun _ _ => rfl, rfl⟩

theorem setFlags {fl : Word} (h : Touches bs s t) : Touches bs s (t.setFlags fl) := h.keeps rfl rfl

theorem pop16 (h : Touches bs s t) : Touches bs s t.pop16 := h.keeps rfl rfl

theorem write {w : Width} {sg off : Word} {v : BitVec w.bits} (h : Touches bs s t)
    (hb : touched w (phys sg off) ⊆ bs) : Touches bs s (t.write w sg off v) where
  byte a ha := by
    have hout : a ∉ accessBytes w (phys sg off) := fun hm => ha (hb (touched_eq_accessBytes .. ▸ hm))
    rw [State.write_mem, Memory.byteAt_write_other _ _ _ _ _ hout, h.byte a ha]
  io := h.io

theorem writeLoc {w : Width} {l : Loc} {v : BitVec w.bits} (h : Touches bs s t) (hb : locBytes w l ⊆ bs) :
    Touches bs s (t.writeLoc w l v) := by
  cases l with
  | reg r => exact h.keeps (State.setReg_mem ..) (State.setReg_io ..)
  | mem sg off => exact h.write hb

theorem aluSetFlags {n : Nat} {op : AluOp} {x y : BitVec n} (h : Touches bs s t) :
    Touches bs s (op.setFlags x y t) := by
  cases op <;> exact h.keeps rfl rfl

theorem alu {op : AluOp} {w : Width} {l : Loc} {y : BitVec w.bits} (h : Touches bs s t)
    (hb : op.writes = true → locBytes w l ⊆ bs) : Touches bs s (t.alu op w l y) := by
  unfold State.alu
  dsimp only
  split
  · next hw => exact h.aluSetFlags.writeLoc (hb hw)
  · exact h.aluSetFlags

/-- A shift or rotate by 0 stores nothing (R306). -/
theorem shift {op : ShiftOp} {w : Width} {l : Loc} {n : Nat} (h : Touches bs s t)
    (hb : n ≠ 0 → locBytes w l ⊆ bs) : Touches bs s (t.shift op w l n) := by
  unfold State.shift
  split
  · exact h
  · next hn =>
    dsimp only
    split
    · exact h.setFlags.writeLoc (hb hn)
    · exact (h.setFlags.writeLoc (hb hn)).keeps rfl rfl

/-- A push stores to the first slot below SP. -/
theorem push16 {k : Nat} {v : Word} (h : Touches bs s t) (hb : slots (k + 1) t ⊆ bs) :
    Touches bs s (t.push16 v) := by
  rw [slots_succ] at hb
  exact (h.keeps (u := { t with sp := t.sp - 2 }) rfl rfl).write (List.append_subset.1 hb).1

end Touches

/-- The slots below SP after a push are all but the first of those before it. -/
theorem slots_push16_subset (k : Nat) (s : State) (v : Word) : slots k (s.push16 v) ⊆ slots (k + 1) s := by
  rw [slots_succ]
  exact List.subset_append_right _ _

/-- MOVS and STOS store their destination element (R343, R347). -/
def StringOp.stores : StringOp → Bool
  | .movs | .stos => true
  | .lods | .cmps | .scas => false

/-- After a repetition that stores, the elements ahead are all but the first of those before it. -/
theorem elements_stringOnce_subset {op : StringOp} (hop : op.stores = true) (w : Width) (n : Nat) (c : Ctx)
    (s : State) : elements w n (s.stringOnce op w c).decCx ⊆ elements w (n + 1) s := by
  rw [elements_succ, ← stringDelta_eq_delta]
  cases op with
  | lods | cmps | scas => cases hop
  | movs | stos => exact List.subset_append_right _ _

namespace Touches

variable {bs : List PAddr} {s t : State}

theorem stringOnce {op : StringOp} {w : Width} {n : Nat} {c : Ctx} (h : Touches bs s t)
    (hb : op.stores = true → elements w (n + 1) t ⊆ bs) : Touches bs s (t.stringOnce op w c) := by
  simp only [elements_succ, List.append_subset] at hb
  cases op with
  | movs | stos => exact (h.write (hb rfl).1).keeps rfl rfl
  | cmps | scas => exact h.keeps rfl rfl
  | lods => exact h.keeps (State.setAcc_mem ..) (State.setAcc_io ..)

theorem stringLoop {op : StringOp} {w : Width} {c : Ctx} {r : Repeat} {n : Nat} (h : Touches bs s t)
    (hb : op.stores = true → elements w n t ⊆ bs) : Touches bs s (State.stringLoop op w c r n t) := by
  induction n generalizing t with
  | zero => exact h
  | succ n ih =>
    have h1 : Touches bs s (t.stringOnce op w c).decCx := (h.stringOnce hb).keeps rfl rfl
    rw [State.stringLoop]
    split
    · exact h1
    · exact ih h1 fun hop => List.Subset.trans (elements_stringOnce_subset hop w n c t) (hb hop)

end Touches

/-! ## What an instruction stores to

One case analysis over the instructions: `execUnder_stores`, but for IN and OUT, which have `execUnder_ports`. -/

/-- The instruction ends in a next state and stores to `bs` alone. -/
inductive Stores (bs : List PAddr) (s : State) : Out → Prop
  | next {t : State} (touches : Touches bs s t) : Stores bs s (.next t)

namespace Stores

variable {bs : List PAddr} {c : Ctx} {s : State}

theorem inv {t : State} (h : Stores bs s (.next t)) : Touches bs s t := by
  cases h; assumption

/-- An instruction that stores nothing. -/
theorem nothing {t : State} (hm : t.mem = s.mem) (hio : t.io = s.io) : Stores bs s (.next t) :=
  .next (Touches.refl.keeps hm hio)

theorem goes {t : State} {n : Nat} (h : Touches bs s t) : Stores bs s (.next (t.advance c n)) :=
  .next (h.keeps rfl rfl)

theorem aluRmReg {op : AluOp} {d : Dir} {w : Width} {reg : RegNum} {rm : RM}
    (hb : op.writes = true → d = .toRM → locBytes w (c.loc rm s) ⊆ bs) :
    Stores bs s (.next (aluRmReg op d w reg rm c s)) := by
  cases d with
  | toRM => exact .goes (Touches.refl.alu fun hw => hb hw rfl)
  | toReg => exact .goes (Touches.refl.alu fun _ => List.nil_subset _)

theorem shiftRm {op : ShiftOp} {v : Count} {w : Width} {rm : RM} :
    Stores (if shiftCountOf v s = 0 then [] else locBytes w (c.loc rm s)) s (.next (shiftRm op v w rm c s)) := by
  refine .goes (Touches.refl.shift fun hn => ?_)
  rw [if_neg (shiftCount_eq s v ▸ hn)]
  exact List.Subset.refl _

theorem interrupt {t : Byte} {ret : Word} (hb : slots 3 s ⊆ bs) : Stores bs s (.next (s.interrupt t ret)) := by
  have h1 : Touches bs s (((s.push16 s.flags).assignFlag .intf false).assignFlag .tf false) :=
    (Touches.refl.push16 hb).keeps rfl rfl
  have hb1 : slots 2 (((s.push16 s.flags).assignFlag .intf false).assignFlag .tf false) ⊆ bs :=
    List.Subset.trans (slots_push16_subset 2 s s.flags) hb
  exact .next (((h1.push16 hb1).push16 (List.Subset.trans (slots_push16_subset 1 _ _) hb1)).keeps rfl rfl)

theorem callFarTo {sg off ret : Word} : Stores (slots 2 s) s (.next (s.callFarTo sg off ret)) :=
  .next (((Touches.refl.push16 (List.Subset.refl _)).push16 (slots_push16_subset 1 s s.cs)).keeps rfl rfl)

theorem stringExec {ps : List Prefix} {op : StringOp} {w : Width}
    (hb : op.stores = true → stringBytes ps w s ⊆ bs) :
    Stores bs s (.next (stringExec op w (Ctx.ofPrefixes ps) s)) := by
  rw [stringBytes_eq_elements, ← rep_ofPrefixes, Option.isSome_map] at hb
  refine .goes ?_
  split
  · next hrep => exact Touches.refl.stringOnce (n := 0) (by simpa [hrep] using hb)
  · next hrep => exact Touches.refl.stringLoop (by simpa [hrep] using hb)

end Stores

/-- Behind any prefixes an instruction other than IN and OUT stores to the bytes of `stored` alone. -/
theorem execUnder_stores (ps : List Prefix) (i : Instr) (s : State) (hi : i.prefixes = [])
    (hp : usesPorts i = false) : Stores (stored ps s i) s (execUnder (Ctx.ofPrefixes ps) i s) := by
  cases i with
  | segEs | segCs | segSs | segDs | lock | repne | rep => exact absurd hi (List.cons_ne_nil _ _)
  | inImm | inDx | outImm | outDx => cases hp
  | addRmReg | adcRmReg | subRmReg | sbbRmReg | andRmReg | orRmReg | xorRmReg =>
    exact .aluRmReg fun _ hd => by subst hd; exact List.Subset.refl _
  | cmpRmReg | testRmReg => exact .aluRmReg nofun
  | addAl | adcAl | subAl | sbbAl | andAl | orAl | xorAl | cmpAl | testAl
  | addAx | adcAx | subAx | sbbAx | andAx | orAx | xorAx | cmpAx | testAx =>
    exact .goes (Touches.refl.alu fun _ => List.nil_subset _)
  | addRm8Imm8 | adcRm8Imm8 | subRm8Imm8 | sbbRm8Imm8 | andRm8Imm8 | orRm8Imm8 | xorRm8Imm8
  | addRm8Imm8Alt | adcRm8Imm8Alt | subRm8Imm8Alt | sbbRm8Imm8Alt | andRm8Imm8Alt | orRm8Imm8Alt | xorRm8Imm8Alt
  | addRm16Imm16 | adcRm16Imm16 | subRm16Imm16 | sbbRm16Imm16 | andRm16Imm16 | orRm16Imm16 | xorRm16Imm16
  | addRm16Imm8 | adcRm16Imm8 | subRm16Imm8 | sbbRm16Imm8 | andRm16Imm8 | orRm16Imm8 | xorRm16Imm8 =>
    exact .goes (Touches.refl.alu fun _ => List.Subset.refl _)
  | cmpRm8Imm8 | cmpRm8Imm8Alt | cmpRm16Imm16 | cmpRm16Imm8 | testRm8Imm8 | testRm16Imm16 =>
    exact .goes (Touches.refl.alu nofun)
  | incReg | decReg => exact .nothing (State.setReg_mem ..) (State.setReg_io ..)
  | incRm | decRm | negRm => exact .goes (Touches.refl.setFlags.writeLoc (List.Subset.refl _))
  | notRm | movRm8Imm8 | movRm16Imm16 | movRmSreg => exact .goes (Touches.refl.writeLoc (List.Subset.refl _))
  | rolRm | rorRm | rclRm | rcrRm | shlRm | shrRm | sarRm => exact .shiftRm
  | movRmReg d =>
    cases d with
    | toRM => exact .goes (Touches.refl.writeLoc (List.Subset.refl _))
    | toReg => exact .nothing (State.setReg_mem ..) (State.setReg_io ..)
  | movMoffsAcc => exact .goes (Touches.refl.write (segment_ofPrefixes ps .ds s ▸ List.Subset.refl _))
  | xchgRmReg =>
    exact .goes ((Touches.refl.writeLoc (List.Subset.refl _)).keeps (State.setReg_mem ..) (State.setReg_io ..))
  | popRm => exact .goes (Touches.refl.pop16.writeLoc (List.Subset.refl _))
  | pushEs | pushCs | pushSs | pushDs | pushReg | pushRm | pushf =>
    exact .goes (Touches.refl.push16 (List.Subset.refl _))
  | callRel | callRm => exact .next ((Touches.refl.push16 (List.Subset.refl _)).keeps rfl rfl)
  | callFar => exact .callFarTo
  | callFarRm rm =>
    cases rm with
    | reg => exact .nothing rfl rfl
    | direct | mem => exact .callFarTo
  | int3 | intImm => exact .interrupt (List.Subset.refl _)
  | into =>
    rw [execUnder_into, execInto]
    split
    · next hof =>
      have hb : stored ps s .into = slots 3 s := if_pos hof
      exact hb ▸ .interrupt (List.Subset.refl _)
    · exact .nothing rfl rfl
  | movs | stos => exact .stringExec fun _ => List.Subset.refl _
  | lods | cmps | scas => exact .stringExec nofun
  | mulRm | imulRm | divRm | idivRm => exact .nothing (by simp) (by simp)
  | aam imm =>
    rw [execUnder_aam, execAam]
    split <;> exact .nothing rfl rfl
  | lea _ rm | les _ rm | lds _ rm => cases rm <;> exact .nothing (by simp) (by simp)
  | jmpFarRm rm => cases rm <;> exact .nothing rfl rfl
  | popReg | movReg8Imm | movReg16Imm | movAccMoffs | movSregRm => exact .nothing (by simp) (by simp)
  | _ => exact .nothing rfl rfl

/-- IN and OUT record one event and store nothing (R80, R81). -/
theorem execUnder_ports (c : Ctx) (i : Instr) (s : State) (hp : usesPorts i = true) :
    ∃ t e, execUnder c i s = .next t ∧ t.mem = s.mem ∧ t.io = s.io ++ [e] := by
  cases i with
  | inImm | inDx => exact ⟨_, _, rfl, State.inPort_mem .., State.setAcc_io ..⟩
  | outImm | outDx => exact ⟨_, _, rfl, rfl, rfl⟩
  | _ => cases hp

end Sys2Proof.Machine

open Sys2Proof Sys2Proof.Machine Sys2Proof.Claims

/-- Settles O17: IN and OUT leave memory alone (`execUnder_ports`), the rest store as `execUnder_stores` says. -/
theorem memoryFrame : Obligations.MemoryFrame := by
  intro ps i s t a hi h ha
  rw [exec_withPrefixes] at h
  cases hp : usesPorts i with
  | true =>
    obtain ⟨u, e, hu, hm, -⟩ := execUnder_ports (Ctx.ofPrefixes ps) i s hp
    cases hu.symm.trans h
    rw [hm]
  | false => exact (h ▸ execUnder_stores ps i s hi hp).inv.byte a ha

/-- Settles O18: one event for IN and OUT (`execUnder_ports`), none for the rest (`execUnder_stores`). -/
theorem portFrame : Obligations.PortFrame := by
  intro i s t h
  rw [exec_body] at h
  refine ⟨fun hp => (h ▸ execUnder_stores i.prefixes i.body s (body_prefixes i) hp).inv.io, fun hp => ?_⟩
  obtain ⟨u, e, hu, -, hio⟩ := execUnder_ports (Ctx.ofPrefixes i.prefixes) i.body s hp
  cases hu.symm.trans h
  exact ⟨e, hio⟩
end

section
namespace Sys2Proof

open Sys2Proof.Machine Sys2Proof.Claims

/-! ## The fields of a ModRM byte (R106 to R109) -/

theorem modField_toNat (m : Byte) : (m.extractLsb' 6 2).toNat = m.toNat / 64 := by revert m; decide

theorem regField_toNat (m : Byte) : (m.extractLsb' 3 3).toNat = m.toNat / 8 % 8 := by revert m; decide

theorem rmField_toNat (m : Byte) : (m.extractLsb' 0 3).toNat = m.toNat % 8 := by revert m; decide

theorem eq_three_of_toNat_ne {mod : BitVec 2} (h0 : mod.toNat ≠ 0) (h1 : mod.toNat ≠ 1) (h2 : mod.toNat ≠ 2) :
    mod = 3 := by
  revert mod; decide

theorem RegNum.ofBits_eq_regTable (b : BitVec 3) : RegNum.ofBits b = regTable.getD b.toNat .r0 := by revert b; decide

theorem Base.ofBits_eq_baseTable (b : BitVec 3) : Base.ofBits b = baseTable.getD b.toNat .bx := by revert b; decide

/-- The segment register of bits 4:3 is the one the whole reg field numbers, when there is one (R28, R107). -/
theorem ModRM.num_sreg (x : ModRM) (h : x.reg.bits.toNat < 4) : x.sreg.num = x.reg := by
  have hfield : ∀ m : Byte, (RegNum.ofBits (m.extractLsb' 3 3)).bits.toNat < 4 →
      (SReg.ofBits (m.extractLsb' 3 2)).num = RegNum.ofBits (m.extractLsb' 3 3) := by decide
  exact hfield x.byte h

/-- The decoder's table of illegal combinations is the list of R127. -/
theorem modRMIllegal_iff (op m : Byte) :
    modRMIllegal op (m.extractLsb' 6 2) (m.extractLsb' 3 3) = true ↔ Unresolvable op m := by
  rw [Unresolvable, ← modField_toNat, ← regField_toNat]
  generalize m.extractLsb' 6 2 = mod
  generalize m.extractLsb' 3 3 = reg
  unfold modRMIllegal
  split <;> simp_all [BitVec.toNat_eq] <;> omega

/-! ## What the decoder can answer (R124 to R129) -/

/-- What the decoder can answer for the opcode `op` and the bytes `bs` behind it: the instruction these bytes encode,
the end of the list within the longest instruction, or a cause that R126 or R127 lists. -/
inductive Reads (op : Byte) (bs : List Byte) : DecodeResult → Prop
  | instr {i : Instr} {rest : List Byte} (bytes : op :: bs = encode i ++ rest) (ok : i.operandsOk = true) :
      Reads op bs (.ok (i, rest))
  | truncated (short : bs.length < 5) : Reads op bs (.error .truncated)
  | unknown (absent : op ∈ absentOpcodes) : Reads op bs (.error (.unknownOpcode op))
  | unresolvable {m : Byte} (listed : Unresolvable op m) : Reads op bs (.error (.unresolvableModRM op m))

/-- The ModRM reader hands on `x` and `r` for the bytes `bs` behind `op`. -/
structure ModRM.ReadFrom (op : Byte) (bs : List Byte) (x : ModRM) (r : List Byte) : Prop where
  bytes : bs = encodeModRM x.reg x.rm ++ r
  encodable : x.rm.encodable = true
  legal : modRMIllegal op x.rm.mod x.reg.bits = false

theorem encodable_base {rb : BitVec 3} (h : ¬ (rb == 6) = true) : (RM.mem (Base.ofBits rb) .none).encodable = true := by
  revert rb; decide

theorem encodable_disp8 (b : Base) (d : Byte) : (RM.mem b (.d8 d)).encodable = true := by cases b <;> rfl

theorem encodable_disp16 (b : Base) (d : Word) : (RM.mem b (.d16 d)).encodable = true := by cases b <;> rfl

theorem operandsOk_of_encodable {i : Instr} {rm : RM} (hr : i.rm? = some rm) (hm : i.memoryOnly = false)
    (he : rm.encodable = true) : i.operandsOk = true := by
  rw [Instr.operandsOk, hr, hm]
  exact Bool.and_eq_true_iff.2 ⟨he, rfl⟩

theorem operandsOk_of_mod_ne {i : Instr} {rm : RM} (hr : i.rm? = some rm) (hmod : (rm.mod == 3) = false)
    (he : rm.encodable = true) : i.operandsOk = true := by
  have hmem : rm.isMem = true := by
    cases rm with
    | reg => cases hmod
    | direct | mem => rfl
  rw [Instr.operandsOk, hr]
  exact Bool.and_eq_true_iff.2 ⟨he, by rw [hmem, Bool.or_true]⟩

theorem ModRM.ReadFrom.length_le {op : Byte} {bs r : List Byte} {x : ModRM} (h : x.ReadFrom op bs r) :
    bs.length ≤ r.length + 3 := by
  have hd := dispLen_le x.rm
  rw [h.bytes, List.length_append, Laws.length_encodeModRM]
  omega

namespace Reads

variable {op : Byte} {bs l : List Byte}

theorem byte {k : Byte → List Byte → DecodeResult} (hl : bs.length ≤ l.length + 3)
    (h : ∀ b r, l = b :: r → Reads op bs (k b r)) : Reads op bs (withByte l k) := by
  cases l with
  | nil => exact .truncated (Nat.lt_succ_of_lt (Nat.lt_succ_of_le hl))
  | cons b r => exact h b r rfl

theorem word {k : Word → List Byte → DecodeResult} (hl : bs.length ≤ l.length + 3)
    (h : ∀ v r, l = wordBytes v ++ r → Reads op bs (k v r)) : Reads op bs (withWord l k) := by
  match l with
  | [] => exact .truncated (Nat.lt_succ_of_lt (Nat.lt_succ_of_le hl))
  | [_] => exact .truncated (Nat.lt_succ_of_le hl)
  | lo :: hi :: r => exact h _ r (by rw [wordBytes, loByte_mkWord, hiByte_mkWord]; rfl)

/-- The operand of the fields `mod` and `rm`, its displacement in front of what is handed on (R108 to R112). -/
theorem disp {mod : BitVec 2} {rb : BitVec 3} {k : RM → List Byte → DecodeResult} (hl : bs.length ≤ l.length + 3)
    (h : ∀ rm r, rm.mod = mod → rm.rmBits = rb → rm.encodable = true → l = rm.dispBytes ++ r → Reads op bs (k rm r)) :
    Reads op bs (withDisp mod rb l k) := by
  unfold withDisp
  split
  · next hm =>
    obtain rfl : mod = 0 := BitVec.eq_of_toNat_eq hm
    split
    · next h6 =>
      obtain rfl : rb = 6 := eq_of_beq h6
      exact .word hl fun a r hr => h (.direct a) r rfl rfl rfl hr
    · next h6 => exact h (.mem (Base.ofBits rb) .none) l rfl (Base.bits_ofBits rb) (encodable_base h6) rfl
  · next hm =>
    obtain rfl : mod = 1 := BitVec.eq_of_toNat_eq hm
    exact .byte hl fun d r hr => h (.mem (Base.ofBits rb) (.d8 d)) r rfl (Base.bits_ofBits rb) (encodable_disp8 _ d) hr
  · next hm =>
    obtain rfl : mod = 2 := BitVec.eq_of_toNat_eq hm
    exact .word hl fun d r hr =>
      h (.mem (Base.ofBits rb) (.d16 d)) r rfl (Base.bits_ofBits rb) (encodable_disp16 _ d) hr
  · next h0 h1 h2 =>
    obtain rfl := eq_three_of_toNat_ne h0 h1 h2
    exact h (.reg (RegNum.ofBits rb)) l rfl (RegNum.bits_ofBits rb) rfl rfl

/-- The ModRM byte: a combination of R127's list is refused, else the reader hands on what it has read (R106). -/
theorem modRM {k : ModRM → List Byte → DecodeResult} (h : ∀ x r, x.ReadFrom op bs r → Reads op bs (k x r)) :
    Reads op bs (withModRM op bs k) := by
  cases bs with
  | nil => exact .truncated (Nat.succ_pos _)
  | cons m l =>
    rw [withModRM]
    split
    · next hill => exact .unresolvable ((modRMIllegal_iff op m).1 hill)
    · next hlegal =>
      refine .disp (Nat.le_add_right _ 2) fun rm r hmod hrm henc hr => h ⟨m, rm⟩ r ⟨?_, henc, ?_⟩
      · rw [ModRM.reg, encodeModRM_eq, hmod, hrm, RegNum.bits_ofBits, modRMByte_fields, hr, List.cons_append]
      · rw [ModRM.reg, hmod, RegNum.bits_ofBits, Bool.eq_false_of_not_eq_true hlegal]

/-! ### The layouts of R123 -/

/-- The opcode byte and a word. -/
theorem wordRow {C : Word → Instr} (hd : ∀ bs, decodeBody op bs = withWord bs fun v r => .ok (C v, r))
    (henc : ∀ v, encode (C v) = op :: wordBytes v) (hok : ∀ v, (C v).operandsOk = true) :
    Reads op bs (decodeBody op bs) := by
  rw [hd]
  exact .word (Nat.le_add_right ..) fun v r hr => .instr (by rw [hr, henc, List.cons_append]) (hok v)

/-- The opcode byte, an offset and a segment. -/
theorem farRow {C : Word → Word → Instr}
    (hd : ∀ bs, decodeBody op bs = withWord bs fun off r => withWord r fun seg r => .ok (C off seg, r))
    (henc : ∀ off seg, encode (C off seg) = op :: (wordBytes off ++ wordBytes seg))
    (hok : ∀ off seg, (C off seg).operandsOk = true) : Reads op bs (decodeBody op bs) := by
  rw [hd]
  refine .word (Nat.le_add_right ..) fun off l hl => .word ?_ fun seg r hr => .instr ?_ (hok off seg)
  · rw [hl, List.length_append, Laws.length_wordBytes]
    omega
  · rw [hl, hr, henc, List.cons_append, List.append_assoc]

/-- The opcode byte and a ModRM operand. -/
theorem modRMRow {C : RegNum → RM → Instr}
    (hd : ∀ bs, decodeBody op bs = withModRM op bs fun x r => .ok (C x.reg x.rm, r))
    (henc : ∀ reg rm, modRMIllegal op rm.mod reg.bits = false → encode (C reg rm) = op :: encodeModRM reg rm)
    (hok : ∀ reg rm, modRMIllegal op rm.mod reg.bits = false → rm.encodable = true → (C reg rm).operandsOk = true) :
    Reads op bs (decodeBody op bs) := by
  rw [hd]
  refine .modRM fun x r ⟨hbytes, he, hl⟩ => .instr ?_ (hok _ _ hl he)
  rw [henc _ _ hl, hbytes, List.cons_append]

/-- The opcode byte, a ModRM operand whose reg field numbers a segment register, the fields above 3 refused (R127). -/
theorem sregRow {C : SReg → RM → Instr}
    (hd : ∀ bs, decodeBody op bs = withModRM op bs fun x r => .ok (C x.sreg x.rm, r))
    (henc : ∀ sr rm, encode (C sr rm) = op :: encodeModRM sr.num rm)
    (hill : ∀ mod reg, modRMIllegal op mod reg = decide (4 ≤ reg.toNat))
    (hok : ∀ sr rm, rm.encodable = true → (C sr rm).operandsOk = true) : Reads op bs (decodeBody op bs) := by
  rw [hd]
  refine .modRM fun x r ⟨hbytes, he, hl⟩ => .instr ?_ (hok _ _ he)
  rw [hill] at hl
  rw [henc, x.num_sreg (Nat.lt_of_not_le (of_decide_eq_false hl)), hbytes, List.cons_append]

/-- The opcode byte, a ModRM operand and a byte. -/
theorem imm8Row {C : RegNum → RM → Byte → Instr}
    (hd : ∀ bs, decodeBody op bs = withModRM op bs fun x r => withByte r fun imm r => .ok (C x.reg x.rm imm, r))
    (henc : ∀ reg rm imm, modRMIllegal op rm.mod reg.bits = false →
      encode (C reg rm imm) = op :: encodeModRM reg rm ++ [imm])
    (hok : ∀ reg rm imm, rm.encodable = true → (C reg rm imm).operandsOk = true) : Reads op bs (decodeBody op bs) := by
  rw [hd]
  refine .modRM fun x l hx => .byte hx.length_le fun imm r hr => .instr ?_ (hok _ _ _ hx.encodable)
  rw [henc _ _ _ hx.legal, hx.bytes, hr, List.append_assoc, List.cons_append, List.singleton_append]

/-- The opcode byte, a ModRM operand and a word. -/
theorem imm16Row {C : RegNum → RM → Word → Instr}
    (hd : ∀ bs, decodeBody op bs = withModRM op bs fun x r => withWord r fun imm r => .ok (C x.reg x.rm imm, r))
    (henc : ∀ reg rm imm, modRMIllegal op rm.mod reg.bits = false →
      encode (C reg rm imm) = op :: encodeModRM reg rm ++ wordBytes imm)
    (hok : ∀ reg rm imm, rm.encodable = true → (C reg rm imm).operandsOk = true) : Reads op bs (decodeBody op bs) := by
  rw [hd]
  refine .modRM fun x l hx => .word hx.length_le fun imm r hr => .instr ?_ (hok _ _ _ hx.encodable)
  rw [henc _ _ _ hx.legal, hx.bytes, hr, List.append_assoc, List.cons_append]

end Reads

/-! ### The rows of the dispatch table by layout (R123, R124) -/

/-- The opcode is the whole instruction (OP, OP_REG, OP_SREG). -/
def bareOpcodes : List Byte :=
  [0x06, 0x07, 0x0E, 0x16, 0x17, 0x1E, 0x1F, 0x27, 0x2F, 0x37, 0x3F, 0x40, 0x41, 0x42, 0x43, 0x44, 0x45, 0x46, 0x47,
    0x48, 0x49, 0x4A, 0x4B, 0x4C, 0x4D, 0x4E, 0x4F, 0x50, 0x51, 0x52, 0x53, 0x54, 0x55, 0x56, 0x57, 0x58, 0x59, 0x5A,
    0x5B, 0x5C, 0x5D, 0x5E, 0x5F, 0x90, 0x91, 0x92, 0x93, 0x94, 0x95, 0x96, 0x97, 0x98, 0x99, 0x9B, 0x9C, 0x9D, 0x9E,
    0x9F, 0xA4, 0xA5, 0xA6, 0xA7, 0xAA, 0xAB, 0xAC, 0xAD, 0xAE, 0xAF, 0xC3, 0xCB, 0xCC, 0xCE, 0xCF, 0xD7, 0xEC, 0xED,
    0xEE, 0xEF, 0xF4, 0xF5, 0xF8, 0xF9, 0xFA, 0xFB, 0xFC, 0xFD]

/-- A byte follows (ACC_IMM8, REG_IMM8, REL8). -/
def byteOpcodes : List Byte :=
  [0x04, 0x0C, 0x14, 0x1C, 0x24, 0x2C, 0x34, 0x3C, 0x70, 0x71, 0x72, 0x73, 0x74, 0x75, 0x76, 0x77, 0x78, 0x79, 0x7A,
    0x7B, 0x7C, 0x7D, 0x7E, 0x7F, 0xA8, 0xB0, 0xB1, 0xB2, 0xB3, 0xB4, 0xB5, 0xB6, 0xB7, 0xCD, 0xD4, 0xD5, 0xE0, 0xE1,
    0xE2, 0xE3, 0xE4, 0xE5, 0xE6, 0xE7, 0xEB]

/-- A word follows (ACC_IMM16, REG_IMM16, MOFFS, REL16). -/
def wordOpcodes : List Byte :=
  [0x05, 0x0D, 0x15, 0x1D, 0x25, 0x2D, 0x35, 0x3D, 0xA0, 0xA1, 0xA2, 0xA3, 0xA9, 0xB8, 0xB9, 0xBA, 0xBB, 0xBC, 0xBD,
    0xBE, 0xBF, 0xC2, 0xCA, 0xE8, 0xE9]

/-- A ModRM operand follows, with any reg field and any mod (MODRM). -/
def modRMOpcodes : List Byte :=
  [0x00, 0x01, 0x02, 0x03, 0x08, 0x09, 0x0A, 0x0B, 0x10, 0x11, 0x12, 0x13, 0x18, 0x19, 0x1A, 0x1B, 0x20, 0x21, 0x22,
    0x23, 0x28, 0x29, 0x2A, 0x2B, 0x30, 0x31, 0x32, 0x33, 0x38, 0x39, 0x3A, 0x3B, 0x84, 0x85, 0x86, 0x87, 0x88, 0x89,
    0x8A, 0x8B, 0xD8, 0xD9, 0xDA, 0xDB, 0xDC, 0xDD, 0xDE, 0xDF]

section

variable {op : Byte} {bs : List Byte}

theorem reads_bare (h : op ∈ bareOpcodes) : Reads op bs (decodeBody op bs) := by
  fin_cases h <;> exact .instr rfl rfl

theorem reads_byte (h : op ∈ byteOpcodes) : Reads op bs (decodeBody op bs) := by
  fin_cases h <;> exact .byte (Nat.le_add_right ..) fun _ _ hr => .instr (hr ▸ rfl) rfl

theorem reads_word (h : op ∈ wordOpcodes) : Reads op bs (decodeBody op bs) := by
  fin_cases h <;> exact .wordRow (fun _ => rfl) (fun _ => rfl) (fun _ => rfl)

theorem reads_far (h : op ∈ [0x9A, (0xEA : Byte)]) : Reads op bs (decodeBody op bs) := by
  fin_cases h <;> exact .farRow (fun _ => rfl) (fun _ _ => rfl) (fun _ _ => rfl)

theorem reads_modRM (h : op ∈ modRMOpcodes) : Reads op bs (decodeBody op bs) := by
  fin_cases h <;> exact .modRMRow (fun _ => rfl) (fun _ _ _ => rfl) fun _ _ _ he => operandsOk_of_encodable rfl rfl he

/-- LEA, LES, LDS: mod = 11 is refused (R127). -/
theorem reads_memory (h : op ∈ [0x8D, 0xC4, (0xC5 : Byte)]) : Reads op bs (decodeBody op bs) := by
  fin_cases h <;> exact .modRMRow (fun _ => rfl) (fun _ _ _ => rfl) fun _ _ hl he => operandsOk_of_mod_ne rfl hl he

/-- MOV from and to a segment register (R107, R127). -/
theorem reads_sreg (h : op ∈ [0x8C, (0x8E : Byte)]) : Reads op bs (decodeBody op bs) := by
  have hok {i : Instr} {rm : RM} := @operandsOk_of_encodable i rm
  fin_cases h
  · exact .sregRow (C := .movRmSreg) (fun _ => rfl) (fun _ _ => rfl) (fun _ _ => rfl) fun _ _ => hok rfl rfl
  · exact .sregRow (C := .movSregRm) (fun _ => rfl) (fun _ _ => rfl) (fun _ _ => rfl) fun _ _ => hok rfl rfl

/-- Group 1: every reg field selects an instruction (R125). -/
theorem reads_group1 (h : op ∈ [0x80, 0x81, 0x82, (0x83 : Byte)]) : Reads op bs (decodeBody op bs) := by
  have hok {i : Instr} {rm : RM} := @operandsOk_of_encodable i rm
  fin_cases h
  · exact .imm8Row (C := group1Rm8Imm8) (fun _ => rfl) (fun q _ _ _ => by cases q <;> rfl) fun q _ _ he => by
      cases q <;> exact hok rfl rfl he
  · exact .imm16Row (C := group1Rm16Imm16) (fun _ => rfl) (fun q _ _ _ => by cases q <;> rfl) fun q _ _ he => by
      cases q <;> exact hok rfl rfl he
  · exact .imm8Row (C := group1Rm8Imm8Alt) (fun _ => rfl) (fun q _ _ _ => by cases q <;> rfl) fun q _ _ he => by
      cases q <;> exact hok rfl rfl he
  · exact .imm8Row (C := group1Rm16Imm8) (fun _ => rfl) (fun q _ _ _ => by cases q <;> rfl) fun q _ _ he => by
      cases q <;> exact hok rfl rfl he

/-- Group 2: sub-opcode 6 is refused (R125, R127). -/
theorem reads_group2 (h : op ∈ [0xD0, 0xD1, 0xD2, (0xD3 : Byte)]) : Reads op bs (decodeBody op bs) := by
  have hd : decodeBody op bs = withModRM op bs (group2 op) := by fin_cases h <;> rfl
  rw [hd]
  refine .modRM fun x r ⟨hb, he, hl⟩ => ?_
  rw [group2]
  generalize x.reg = q at hb hl
  cases q with
  | r6 => fin_cases h <;> cases hl
  | _ => exact .instr (by rw [hb]; fin_cases h <;> rfl) (operandsOk_of_encodable rfl rfl he)

/-- Group 3: sub-opcode 0 has an immediate, sub-opcode 1 is refused (R125, R127). -/
theorem reads_group3 (h : op ∈ [0xF6, (0xF7 : Byte)]) : Reads op bs (decodeBody op bs) := by
  have hd : decodeBody op bs = withModRM op bs (group3 op) := by fin_cases h <;> rfl
  rw [hd]
  refine .modRM fun x r hx => ?_
  obtain ⟨hb, he, hl⟩ := id hx
  rw [group3]
  generalize x.reg = q at hb hl
  cases q with
  | r0 =>
    fin_cases h
    · refine .byte hx.length_le fun imm l hr => .instr ?_ (operandsOk_of_encodable rfl rfl he)
      rw [hb, hr, encode, List.append_assoc]
      rfl
    · refine .word hx.length_le fun imm l hr => .instr ?_ (operandsOk_of_encodable rfl rfl he)
      rw [hb, hr, encode, List.append_assoc]
      rfl
  | r1 => fin_cases h <;> cases hl
  | _ => exact .instr (by rw [hb]; fin_cases h <;> rfl) (operandsOk_of_encodable rfl rfl he)

/-- Group 4: INC and DEC alone (R125, R127). -/
theorem reads_group4 : Reads 0xFE bs (decodeBody 0xFE bs) := by
  refine .modRM (k := group4 0xFE) fun x r ⟨hb, he, hl⟩ => ?_
  rw [group4]
  generalize x.reg = q at hb hl
  cases q with
  | r0 | r1 => exact .instr (congrArg _ hb) (operandsOk_of_encodable rfl rfl he)
  | _ => cases hl

/-- Group 5: the far transfers read memory operands only, sub-opcode 7 is refused (R125, R127). -/
theorem reads_group5 : Reads 0xFF bs (decodeBody 0xFF bs) := by
  refine .modRM (k := group5 0xFF) fun x r ⟨hb, he, hl⟩ => ?_
  rw [group5]
  generalize x.reg = q at hb hl
  cases q with
  | r3 | r5 => exact .instr (congrArg _ hb) (operandsOk_of_mod_ne rfl hl he)
  | r7 => cases hl
  | _ => exact .instr (congrArg _ hb) (operandsOk_of_encodable rfl rfl he)

/-- 8F, C6, C7: sub-opcode 0 alone (R125, R127). -/
theorem reads_subOpcodeZero (h : op ∈ [0x8F, 0xC6, (0xC7 : Byte)]) : Reads op bs (decodeBody op bs) := by
  have hok {i : Instr} {rm : RM} := @operandsOk_of_encodable i rm
  have hzero {q : RegNum} (hl : (q.bits != 0) = false) : q = .r0 := by
    cases q with
    | r0 => rfl
    | _ => cases hl
  fin_cases h
  · exact .modRMRow (C := fun _ => .popRm) (fun _ => rfl) (fun _ _ hl => by cases hzero hl; rfl)
      fun _ _ _ => hok rfl rfl
  · exact .imm8Row (C := fun _ => .movRm8Imm8) (fun _ => rfl) (fun _ _ _ hl => by cases hzero hl; rfl)
      fun _ _ _ => hok rfl rfl
  · exact .imm16Row (C := fun _ => .movRm16Imm16) (fun _ => rfl) (fun _ _ _ hl => by cases hzero hl; rfl)
      fun _ _ _ => hok rfl rfl

theorem decodeBody_absent (h : op ∈ absentOpcodes) : decodeBody op bs = .error (.unknownOpcode op) := by
  fin_cases h <;> rfl

end

/-- Every opcode byte has one of the layouts above, or is absent (R124, R126). -/
theorem opcode_layouts (op : Byte) (hp : prefixOf op = none) :
    op ∈ bareOpcodes ∨ op ∈ byteOpcodes ∨ op ∈ wordOpcodes ∨ op ∈ [0x9A, (0xEA : Byte)] ∨ op ∈ modRMOpcodes ∨
      op ∈ [0x8D, 0xC4, (0xC5 : Byte)] ∨ op ∈ [0x8C, (0x8E : Byte)] ∨ op ∈ [0x80, 0x81, 0x82, (0x83 : Byte)] ∨
      op ∈ [0xD0, 0xD1, 0xD2, (0xD3 : Byte)] ∨ op ∈ [0xF6, (0xF7 : Byte)] ∨ op = 0xFE ∨ op = 0xFF ∨
      op ∈ [0x8F, 0xC6, (0xC7 : Byte)] ∨ op ∈ absentOpcodes := by
  revert op; decide

/-- What the decoder answers behind the prefixes: the inversion lemma of `decodeBody`. -/
theorem decodeBody_reads (op : Byte) (bs : List Byte) (hp : prefixOf op = none) : Reads op bs (decodeBody op bs) := by
  rcases opcode_layouts op hp with h | h | h | h | h | h | h | h | h | h | rfl | rfl | h | h
  · exact reads_bare h
  · exact reads_byte h
  · exact reads_word h
  · exact reads_far h
  · exact reads_modRM h
  · exact reads_memory h
  · exact reads_sreg h
  · exact reads_group1 h
  · exact reads_group2 h
  · exact reads_group3 h
  · exact reads_group4
  · exact reads_group5
  · exact reads_subOpcodeZero h
  · exact decodeBody_absent h ▸ .unknown h

/-! ### Behind any prefixes -/

theorem decode_opcode {op : Byte} (hp : prefixOf op = none) (bs : List Byte) :
    decode (op :: bs) = decodeBody op bs := by
  rw [decode, hp]

/-- A list of bytes is a run of prefix bytes, with an opcode behind it or nothing (R100). -/
theorem exists_prefixes (bs : List Byte) :
    ∃ ps : List Prefix, bs = ps.map Prefix.byte ++ [] ∨
      ∃ op l, prefixOf op = none ∧ bs = ps.map Prefix.byte ++ op :: l := by
  induction bs with
  | nil => exact ⟨[], .inl rfl⟩
  | cons b bs ih =>
    cases hb : prefixOf b with
    | none => exact ⟨[], .inr ⟨b, bs, hb, rfl⟩⟩
    | some p =>
      obtain rfl := prefixOf_eq_some hb
      obtain ⟨ps, rfl | ⟨op, l, hop, rfl⟩⟩ := ih
      · exact ⟨p :: ps, .inl rfl⟩
      · exact ⟨p :: ps, .inr ⟨op, l, hop, rfl⟩⟩

theorem encode_of_decode {bs rest : List Byte} {i : Instr} (h : decode bs = .ok (i, rest)) :
    bs = encode i ++ rest ∧ i.operandsOk = true := by
  obtain ⟨ps, rfl | ⟨op, l, hop, rfl⟩⟩ := exists_prefixes bs <;> rw [decode_prefixes] at h
  · cases h
  · have hreads := decodeBody_reads op l hop
    rw [decode_opcode hop] at h
    generalize decodeBody op l = res at h hreads
    cases hreads with
    | instr bytes ok =>
      cases h
      exact ⟨by rw [bytes, encode_withPrefixes, List.append_assoc], by rw [Instr.withPrefixes_operandsOk, ok]⟩
    | truncated | unknown | unresolvable => cases h

/-- The decoder fails by one of its three errors, the two causes of a fault as R126 and R127 list them. -/
theorem decode_error {bs : List Byte} {e : DecodeError} (h : decode bs = .error e) :
    e = .truncated ∨ (∃ op ∈ absentOpcodes, e = .unknownOpcode op) ∨
      ∃ op m, Unresolvable op m ∧ e = .unresolvableModRM op m := by
  obtain ⟨ps, rfl | ⟨op, l, hop, rfl⟩⟩ := exists_prefixes bs <;> rw [decode_prefixes] at h
  · cases h
    exact .inl rfl
  · have hreads := decodeBody_reads op l hop
    rw [decode_opcode hop] at h
    generalize decodeBody op l = res at h hreads
    cases hreads with
    | instr => cases h
    | truncated => cases h; exact .inl rfl
    | unknown absent => cases h; exact .inr (.inl ⟨op, absent, rfl⟩)
    | unresolvable listed => cases h; exact .inr (.inr ⟨op, _, listed, rfl⟩)

/-- The opcodes for which R127 lists a combination. -/
theorem opcode_of_modRMIllegal {op : Byte} {mod : BitVec 2} {reg : BitVec 3} (h : modRMIllegal op mod reg = true) :
    op ∈ [0xD0, 0xD1, 0xD2, 0xD3, 0xF6, 0xF7, 0xFE, 0xFF, 0x8F, 0xC6, 0xC7, 0x8C, 0x8E, 0x8D, 0xC4, (0xC5 : Byte)] := by
  simp only [List.mem_cons, ← BitVec.toNat_inj]
  unfold modRMIllegal at h
  split at h <;> simp_all

theorem decodeBody_unresolvable {op m : Byte} (h : Unresolvable op m) (bs : List Byte) :
    decodeBody op (m :: bs) = .error (.unresolvableModRM op m) := by
  have hill := (modRMIllegal_iff op m).2 h
  have hop := opcode_of_modRMIllegal hill
  fin_cases hop <;> exact if_pos hill

theorem decode_of_encode (i : Instr) (rest : List Byte) (hok : i.operandsOk = true) :
    decode (encode i ++ rest) = .ok (i, rest) := by
  rw [operandsOk_body] at hok
  rw [encode_eq_prefixes_append, List.append_assoc, decode_prefixes,
    decode_of_decodes (decodes_of_operandsOk i.body (body_prefixes i) hok)]
  dsimp only
  rw [Instr.body_withPrefixes]

end Sys2Proof

open Sys2Proof Sys2Proof.Machine Sys2Proof.Claims

/-- Settles O2: the body by the rows of the dispatch table (`decodes_of_operandsOk`), its prefixes by
`decode_prefixes`. -/
theorem decodeOfEncode : Obligations.DecodeOfEncode := decode_of_encode

/-- Settles O3: what the decoder answers, by layout (`decodeBody_reads`). -/
theorem encodeOfDecode : Obligations.EncodeOfDecode := fun _ _ _ => encode_of_decode

/-- Settles O1: the decoder run on each word. -/
theorem specWordsDecode : Obligations.SpecWordsDecode :=
  ⟨rfl, rfl, rfl, rfl, rfl, rfl, rfl, rfl, rfl, rfl, rfl, rfl, rfl, rfl⟩

end

section
namespace Sys2Proof.Machine

open Sys2Proof Sys2Proof.Claims

/-! ## A fetch that decodes to no instruction (R103, R126, R127) -/

/-- Prefixes at CS:IP are fetched with the longest instruction behind them, when room is left for an opcode (R78,
R103). -/
theorem fetchInstr_of_prefixesAt {s : State} {ps : List Prefix} (hlen : ps.length < memSize) (hps : PrefixesAt s ps)
    (hop : prefixOf (s.mem.byteAt (phys s.cs s.ip + BitVec.ofNat 20 ps.length)) = none) :
    s.fetchInstr =
      decode (ps.map Prefix.byte ++ s.mem.bytes maxBodyLen (phys s.cs s.ip + BitVec.ofNat 20 ps.length)) := by
  obtain ⟨n, hn⟩ := Nat.exists_eq_add_of_lt hlen
  rw [State.fetchInstr, hn, Nat.add_assoc, Memory.fetch_prefixes s.mem ps (n + 1) _ hps, Memory.fetch_body _ n _ hop]

/-- Behind prefixes at CS:IP an opcode and a byte that decode to no instruction end the step in the decoder's
failure. -/
theorem step_of_opcode_error {s : State} {ps : List Prefix} {op m : Byte} {e : DecodeError} (hr : s.run = .running)
    (hlen : ps.length < memSize) (hps : PrefixesAt s ps)
    (hop : s.mem.byteAt (phys s.cs s.ip + BitVec.ofNat 20 ps.length) = op)
    (hm : s.mem.byteAt (phys s.cs s.ip + BitVec.ofNat 20 (ps.length + 1)) = m) (hp : prefixOf op = none)
    (he : ∀ bs, decodeBody op (m :: bs) = .error e) : step s = decodeFailure e s := by
  refine step_of_error s e hr ?_
  have hbytes : s.mem.bytes maxBodyLen (phys s.cs s.ip + BitVec.ofNat 20 ps.length) =
      op :: m :: s.mem.bytes 4 (phys s.cs s.ip + BitVec.ofNat 20 ps.length + 1 + 1) := by
    rw [BitVec.ofNat_add, ← BitVec.add_assoc] at hm
    rw [← hop, ← hm]
    rfl
  rw [fetchInstr_of_prefixesAt hlen hps (hop ▸ hp), hbytes, decode_prefixes, decode_opcode hp, he]

theorem prefixOf_absent : ∀ op ∈ absentOpcodes, prefixOf op = none := by decide

theorem prefixOf_of_modRMIllegal {op : Byte} {mod : BitVec 2} {reg : BitVec 3} (h : modRMIllegal op mod reg = true) :
    prefixOf op = none := by
  have hop := opcode_of_modRMIllegal h
  fin_cases hop <;> rfl

theorem mem_prefixBytes_iff (b : Byte) :
    b ∈ [0x26, 0x2E, 0x36, 0x3E, 0xF0, 0xF2, (0xF3 : Byte)] ↔ prefixOf b ≠ none := by
  revert b; decide

/-- The fetch ends before an opcode exactly when every byte of memory is a prefix byte (R103). -/
theorem fetchInstr_truncated_iff (s : State) :
    s.fetchInstr = .error .truncated ↔ ∀ a, prefixOf (s.mem.byteAt a) ≠ none := by
  obtain ⟨ps, hps, ⟨hlen, hfetch⟩ | ⟨hlen, hop, hfetch⟩⟩ := s.mem.fetch_cases memSize (phys s.cs s.ip)
  · have hall : ∀ a, prefixOf (s.mem.byteAt a) ≠ none := fun a => by
      have hk : (a - phys s.cs s.ip).toNat < ps.length := hlen ▸ (a - phys s.cs s.ip).isLt
      have hb := hps _ _ (List.getElem?_eq_getElem hk)
      rw [BitVec.ofNat_toNat, BitVec.setWidth_eq, BitVec.add_comm, BitVec.sub_add_cancel] at hb
      rw [hb, prefixOf_byte]
      nofun
    refine iff_of_true ?_ hall
    rw [State.fetchInstr, hfetch, ← List.append_nil (ps.map _), decode_prefixes]
    rfl
  · refine iff_of_false (fun h => ?_) fun hall => hall _ hop
    have hreads := decodeBody_reads _ (s.mem.bytes 5 (phys s.cs s.ip + BitVec.ofNat 20 ps.length + 1)) hop
    rw [fetchInstr_of_prefixesAt hlen hps hop, decode_prefixes, maxBodyLen, Memory.bytes, decode_opcode hop] at h
    generalize decodeBody _ _ = res at h hreads
    cases hreads with
    | truncated short => rw [Memory.bytes_length] at short; omega
    | instr | unknown | unresolvable => cases h

theorem decodeFailure_eq_fault_iff {e : DecodeError} {s : State} {r : Fault} :
    decodeFailure e s = .fault r ↔ e = .truncated ∧ r = .prefixHang := by
  cases e with
  | truncated => simp [decodeFailure]
  | unknownOpcode | unresolvableModRM => simp [decodeFailure]

/-- The operand of mod and rm when two bytes follow the ModRM byte (R108 to R111). -/
theorem withDisp_two_bytes (mod : BitVec 2) (rb : BitVec 3) (lo hi : Byte) (k : RM → List Byte → DecodeResult) :
    withDisp mod rb [lo, hi] k =
      if mod.toNat = 3 then k (.reg (RegNum.ofBits rb)) [lo, hi]
      else if mod.toNat = 0 ∧ rb.toNat = 6 then k (.direct (hi ++ lo)) []
      else if mod.toNat = 0 then k (.mem (Base.ofBits rb) .none) [lo, hi]
      else if mod.toNat = 1 then k (.mem (Base.ofBits rb) (.d8 lo)) [hi]
      else k (.mem (Base.ofBits rb) (.d16 (hi ++ lo))) [] := by
  have h6 : rb = 6#3 ↔ rb.toNat = 6 := by revert rb; decide
  unfold withDisp
  split
  · next h0 => simp [h0, h6, withWord, mkWord]
  · next h1 => simp [h1, withByte]
  · next h2 => simp [h2, withWord, mkWord]
  · next h0 h1 h2 =>
    obtain rfl := eq_three_of_toNat_ne h0 h1 h2
    rfl

end Sys2Proof.Machine

open Sys2Proof Sys2Proof.Machine Sys2Proof.Claims

/-- Settles O5: the fault by `step_of_opcode_error`, its cause for no other byte by `decode_error`. -/
theorem unknownOpcodeFaults : Obligations.UnknownOpcodeFaults := by
  refine ⟨fun s ps op hr hlen hps hop habs => ?_, rfl, by decide, fun bs op h => ?_⟩
  · exact step_of_opcode_error hr hlen hps hop rfl (prefixOf_absent op habs) fun _ => decodeBody_absent habs
  · obtain h | ⟨o, ho, h⟩ | ⟨o, m, -, h⟩ := decode_error h <;> cases h
    exact ho

/-- Settles O6: the fault by `step_of_opcode_error`, its cause for no other combination by `decode_error`. -/
theorem unresolvableModRMFaults : Obligations.UnresolvableModRMFaults := by
  refine ⟨fun s ps op m hr hlen hps hop hm hun => ?_, fun bs op m h => ?_⟩
  · have hp : prefixOf op = none := prefixOf_of_modRMIllegal ((modRMIllegal_iff op m).2 hun)
    exact step_of_opcode_error hr hlen hps hop hm hp (decodeBody_unresolvable hun)
  · obtain h | ⟨o, -, h⟩ | ⟨o, m', hun, h⟩ := decode_error h <;> cases h
    exact hun

/-- Settles O8: only a fetch of prefix bytes alone has no result (`fetchInstr_truncated_iff`). -/
theorem stepHangsOnlyOnPrefixMemory : Obligations.StepHangsOnlyOnPrefixMemory := by
  refine ⟨fun s r => ?_, fun s r h => ?_⟩
  · simp only [mem_prefixBytes_iff, ← fetchInstr_truncated_iff]
    obtain ⟨hr, he⟩ | ⟨hr, i, rest, hd, he⟩ | ⟨hr, e, hd, he⟩ := step_cases s
    · simp [he, hr]
    · obtain ⟨t, ht⟩ := (exec_ends i s).next
      simp [he, ht, hd]
    · simp [he, hr, hd, decodeFailure_eq_fault_iff, and_comm]
  · obtain ⟨-, he⟩ | ⟨-, i, rest, -, he⟩ | ⟨-, e, -, he⟩ := step_cases s <;> rw [he] at h
    · cases h
    · obtain ⟨t, ht⟩ := (exec_ends i s).next
      cases ht.symm.trans h
    · cases e <;> cases h

/-- Settles O4: the reader of mod and rm (`withDisp`), field by field. -/
theorem modRMByteFields : Obligations.ModRMByteFields := by
  intro m lo hi
  dsimp only
  have hd : decode [0x8B, m, lo, hi] = withDisp (m.extractLsb' 6 2) (m.extractLsb' 0 3) [lo, hi] fun rm r =>
      .ok (.movRmReg .toReg .word (RegNum.ofBits (m.extractLsb' 3 3)) rm, r) := rfl
  rw [hd, withDisp_two_bytes, RegNum.ofBits_eq_regTable, RegNum.ofBits_eq_regTable, Base.ofBits_eq_baseTable,
    modField_toNat, regField_toNat, rmField_toNat]
end

section
namespace Sys2Proof.Machine

open Sys2Proof Sys2Proof.Claims

/-! ## What an instruction reads of its prefixes (R102, R117) -/

/-- MOVS, CMPS and LODS read the source element, at an overridable segment (R342). -/
def StringOp.readsSource : StringOp → Bool
  | .movs | .cmps | .lods => true
  | .scas | .stos => false

section

variable {c d : Ctx} {op : StringOp}

theorem stringOnce_congr (hseg : op.readsSource = true → c.segovr = d.segovr) (w : Width) (s : State) :
    s.stringOnce op w c = s.stringOnce op w d := by
  have hsource : op.readsSource = true → c.source w s = d.source w s := fun h => by
    rw [Ctx.source, Ctx.source, Ctx.segment, Ctx.segment, hseg h]
  cases op with
  | movs | cmps | lods => rw [State.stringOnce, State.stringOnce, hsource rfl]
  | scas | stos => rfl

theorem stringLoop_congr (hseg : op.readsSource = true → c.segovr = d.segovr) (w : Width) (r : Repeat) (n : Nat)
    (s : State) : State.stringLoop op w c r n s = State.stringLoop op w d r n s := by
  induction n generalizing s with
  | zero => rfl
  | succ n ih => rw [State.stringLoop, State.stringLoop, stringOnce_congr hseg, ih]

/-- A string instruction reads the repetition and, for its source element, the override; the rest is IP. -/
theorem stringExec_congr (hrep : c.rep = d.rep) (hseg : op.readsSource = true → c.segovr = d.segovr) (w : Width)
    (s : State) : ∃ u : State, stringExec op w c s = u.advance c 1 ∧ stringExec op w d s = u.advance d 1 := by
  refine ⟨_, rfl, ?_⟩
  rw [stringExec, hrep]
  cases d.rep with
  | none => rw [stringOnce_congr hseg]
  | some r =>
    dsimp only
    rw [stringLoop_congr hseg]

theorem stringExec_eq (hrep : c.rep = d.rep) (hseg : op.readsSource = true → c.segovr = d.segovr)
    (hcount : c.count = d.count) (w : Width) (s : State) : stringExec op w c s = stringExec op w d s := by
  obtain ⟨u, hc, hd⟩ := stringExec_congr hrep hseg w s
  rw [hc, hd, State.advance, State.advance, Ctx.next, Ctx.next, hcount]

end

theorem override_or_register {sg sg' : Option SReg} {rm : RM} (h : rm.isMem = true → sg = sg') :
    sg = sg' ∨ ∃ r, rm = .reg r := by
  cases rm with
  | reg r => exact .inr ⟨r, rfl⟩
  | direct | mem => exact .inl (h rfl)

/-- An instruction sees of its prefixes their number, a string instruction the repetition too, and one with an
overridable operand the override too. -/
theorem execUnder_congr {c d : Ctx} {i : Instr} (hi : i.prefixes = []) (hcount : c.count = d.count)
    (hrep : isString i = true → c.rep = d.rep) (hseg : overridable i = true → c.segovr = d.segovr) (s : State) :
    execUnder c i s = execUnder d i s := by
  obtain ⟨sg, rep, lock, n⟩ := c
  obtain ⟨sg', rep', lock', n'⟩ := d
  obtain rfl : n = n' := hcount
  cases i with
  | segEs | segCs | segSs | segDs | lock | repne | rep => exact absurd hi (List.cons_ne_nil _ _)
  | movs | cmps | lods => exact congrArg _ (stringExec_eq (hrep rfl) (fun _ => hseg rfl) rfl _ s)
  | scas | stos => exact congrArg _ (stringExec_eq (hrep rfl) (fun h => by cases h) rfl _ s)
  | movAccMoffs | movMoffsAcc | xlat =>
    obtain rfl : sg = sg' := hseg rfl
    rfl
  | addRmReg | orRmReg | adcRmReg | sbbRmReg | andRmReg | subRmReg | xorRmReg | cmpRmReg | testRmReg
  | addRm8Imm8 | orRm8Imm8 | adcRm8Imm8 | sbbRm8Imm8 | andRm8Imm8 | subRm8Imm8 | xorRm8Imm8 | cmpRm8Imm8 | testRm8Imm8
  | addRm16Imm16 | orRm16Imm16 | adcRm16Imm16 | sbbRm16Imm16 | andRm16Imm16 | subRm16Imm16 | xorRm16Imm16
  | cmpRm16Imm16 | testRm16Imm16 | addRm8Imm8Alt | orRm8Imm8Alt | adcRm8Imm8Alt | sbbRm8Imm8Alt | andRm8Imm8Alt
  | subRm8Imm8Alt | xorRm8Imm8Alt | cmpRm8Imm8Alt | addRm16Imm8 | orRm16Imm8 | adcRm16Imm8 | sbbRm16Imm8 | andRm16Imm8
  | subRm16Imm8 | xorRm16Imm8 | cmpRm16Imm8 | incRm | decRm | negRm | notRm | mulRm | imulRm | divRm | idivRm
  | rolRm | rorRm | rclRm | rcrRm | shlRm | shrRm | sarRm | xchgRmReg | movRmReg | movRm8Imm8 | movRm16Imm16
  | movRmSreg | movSregRm | les | lds | popRm | pushRm | callRm | callFarRm | jmpRm | jmpFarRm =>
    obtain rfl | ⟨r, rfl⟩ := override_or_register hseg
    · rfl
    · rfl
  | _ => rfl

/-- The prefixes in force with one more that does not apply (R121). -/
def Ctx.longer (c : Ctx) : Ctx := { c with count := c.count + 1 }

theorem State.advance_longer (s : State) (c : Ctx) (n : Nat) :
    s.advance c.longer n = { s.advance c n with ip := (s.advance c n).ip + 1 } := by
  have hip : c.longer.next n s = c.next n s + 1 := by
    rw [Ctx.next, Ctx.next, Ctx.longer, Nat.add_right_comm, BitVec.ofNat_add, ← BitVec.add_assoc]
    rfl
  exact congrArg s.setIp hip

/-- The ends of an instruction behind `c` and behind one prefix more: IP alone differs, and not in a fault. -/
inductive Lengthens (c : Ctx) : Out → Out → Prop
  | goes (u : State) (n : Nat) : Lengthens c (.next (u.advance c n)) (.next (u.advance c.longer n))
  | faults {t : State} (h : t.run = .faulted) : Lengthens c (.next t) (.next t)

namespace Lengthens

variable {c : Ctx} {s : State} {w : Width}

theorem finishDivide {rm : RM} {res : Except FaultCause (BitVec w.bits × BitVec w.bits)} :
    Lengthens c (.next (s.finishDivide w rm c res)) (.next (s.finishDivide w rm c.longer res)) := by
  cases res with
  | ok => exact .goes _ _
  | error => exact .faults rfl

theorem stringExec {op : StringOp} :
    Lengthens c (.next (stringExec op w c s)) (.next (stringExec op w c.longer s)) := by
  obtain ⟨u, hc, hd⟩ := stringExec_congr (op := op) (c := c) (d := c.longer) rfl (fun _ => rfl) w s
  rw [hc, hd]
  exact .goes u 1

theorem next {o : Out} {t : State} (h : Lengthens c (.next t) o) (hf : t.run ≠ .faulted) :
    o = .next { t with ip := t.ip + 1 } := by
  cases h with
  | goes u n => rw [State.advance_longer]
  | faults hrun => exact absurd hrun hf

end Lengthens

/-- An instruction that is no control transfer uses the number of its prefixes for IP alone (R27, R121). -/
theorem execUnder_lengthens (c : Ctx) {i : Instr} (hi : i.prefixes = []) (ht : transfers i = false) (s : State) :
    Lengthens c (execUnder c i s) (execUnder c.longer i s) := by
  cases i with
  | segEs | segCs | segSs | segDs | lock | repne | rep => exact absurd hi (List.cons_ne_nil _ _)
  | callRel | callRm | callFar | callFarRm | jmpShort | jmpRel | jmpRm | jmpFar | jmpFarRm | ret | retImm | retf
  | retfImm | jo | jno | jb | jnb | jz | jnz | jbe | jnbe | js | jns | jp | jnp | jl | jnl | jle | jnle | loop | loopz
  | loopnz | jcxz | intImm | int3 | into | iret => cases ht
  | movs | cmps | stos | lods | scas => exact .stringExec
  | divRm | idivRm => exact .finishDivide
  | aam imm =>
    rw [execUnder_aam, execUnder_aam, execAam, execAam]
    split
    · exact .faults rfl
    · exact .goes _ _
  | lea _ rm | les _ rm | lds _ rm =>
    cases rm with
    | reg => exact .faults rfl
    | direct | mem => exact .goes _ _
  | hlt => exact .goes s.halt 1
  | _ => exact .goes _ _

/-! ### The place of an operand (R112 to R117) -/

theorem place_direct (ps : List Prefix) (s : State) (a : Word) :
    place ps (.direct a) s = .mem (segmentOf ps .ds s) a := by
  rw [place, Ctx.loc, segment_ofPrefixes]

theorem place_mem (ps : List Prefix) (b : Base) (d : Disp) (s : State) :
    place ps (.mem b d) s = .mem (segmentOf ps (baseSegment b) s) (baseOffset b s + dispValue d) := by
  rw [place, Ctx.loc, segment_ofPrefixes]

/-! ### One prefix more -/

theorem Repeat.isRepe_injective : Function.Injective Repeat.isRepe := by
  intro a b h
  cases a <;> cases b <;> cases h <;> rfl


theorem Ctx.ofPrefixes_cons_segovr {p : Prefix} (hp : Prefix.seg? p = none) (ps : List Prefix) :
    (Ctx.ofPrefixes (p :: ps)).segovr = (Ctx.ofPrefixes ps).segovr := by
  rw [Ctx.ofPrefixes_segovr, Ctx.ofPrefixes_segovr, List.filterMap_cons_none hp]

theorem Ctx.ofPrefixes_cons_rep {p : Prefix} (hp : Prefix.repeat? p = none) (ps : List Prefix) :
    (Ctx.ofPrefixes (p :: ps)).rep = (Ctx.ofPrefixes ps).rep := by
  rw [Ctx.ofPrefixes_rep, Ctx.ofPrefixes_rep, List.filterMap_cons_none hp]

/-- A prefix that does not apply makes the instruction one byte longer and does nothing else (R101, R102). -/
theorem exec_withPrefix_ineffective {p : Prefix} {i : Instr} {s t : State} (h : exec i s = .next t)
    (hf : t.run ≠ .faulted) (ht : transfers i.body = false) (hrep : isString i.body = true → Prefix.repeat? p = none)
    (hseg : overridable i.body = true → Prefix.seg? p = none) :
    exec (i.withPrefix p) s = .next { t with ip := t.ip + 1 } := by
  have hi := body_prefixes i
  have hcongr : exec (i.withPrefix p) s = execUnder (Ctx.ofPrefixes i.prefixes).longer i.body s := by
    rw [exec_body, Instr.withPrefix_body, Instr.withPrefix_prefixes]
    have hcount : (Ctx.ofPrefixes (p :: i.prefixes)).count = (Ctx.ofPrefixes i.prefixes).longer.count := by
      simp [Ctx.longer]
    exact execUnder_congr hi hcount (fun h => Ctx.ofPrefixes_cons_rep (hrep h) _)
      (fun h => Ctx.ofPrefixes_cons_segovr (hseg h) _) s
  have hlonger := execUnder_lengthens (Ctx.ofPrefixes i.prefixes) hi ht s
  rw [← exec_body, h, ← hcongr] at hlonger
  exact hlonger.next hf

end Sys2Proof.Machine

open Sys2Proof Sys2Proof.Machine Sys2Proof.Claims

/-- Settles O26: field by field, the definition of `Ctx.loc` with the override of `segment_ofPrefixes`. -/
theorem operandAddress : Obligations.OperandAddress := by
  intro ps s w v disp ds ss
  have hdisp : disp = dispValue := funext fun d => by cases d <;> rfl
  have hmem (b : Base) (d : Disp) := place_mem ps b d s
  rw [hdisp]
  refine ⟨fun r => ⟨rfl, rfl⟩, fun rm sg off h => ?_, place_direct ps s, hmem .bxsi, hmem .bxdi, hmem .bpsi, hmem .bpdi,
    hmem .si, hmem .di, hmem .bp, hmem .bx⟩
  rw [h]
  exact ⟨rfl, rfl⟩

/-- Settles O27: what is in force is the last of its kind (`rep_ofPrefixes`, `segovr_ofPrefixes`), and an instruction
sees no more (`execUnder_congr`). -/
theorem prefixesActThroughTheLast : Obligations.PrefixesActThroughTheLast := by
  intro ps qs i s hi hlen hrep hseg
  rw [exec_withPrefixes, exec_withPrefixes]
  refine execUnder_congr hi (by simpa using hlen) (fun h => ?_) (fun h => ?_) s
  · exact Option.map_injective Repeat.isRepe_injective (by rw [rep_ofPrefixes, rep_ofPrefixes, hrep h])
  · rw [segovr_ofPrefixes, segovr_ofPrefixes, hseg h]

/-- Settles O28: for each of the prefixes, `exec_withPrefix_ineffective`. -/
theorem ineffectivePrefixAddsItsLength : Obligations.IneffectivePrefixAddsItsLength := by
  intro i s t h _ hf ht
  have hadds (p : Prefix) (hrep : isString i.body = true → Prefix.repeat? p = none)
      (hseg : overridable i.body = true → Prefix.seg? p = none) := exec_withPrefix_ineffective h hf ht hrep hseg
  refine ⟨hadds .lock (fun _ => rfl) fun _ => rfl, fun hs => ?_, fun ho => ?_⟩
  · have hs' : isString i.body = true → False := by simp [hs]
    exact ⟨hadds .rep (fun h => (hs' h).elim) fun _ => rfl, hadds .repne (fun h => (hs' h).elim) fun _ => rfl⟩
  · have ho' (sr : SReg) : exec (i.withPrefix (.seg sr)) s = .next { t with ip := t.ip + 1 } :=
      hadds (.seg sr) (fun _ => rfl) fun h => by rw [ho] at h; cases h
    exact ⟨ho' .es, ho' .cs, ho' .ss, ho' .ds⟩

/-- Settles O29: each of the seven meanings, with the loop of R348 empty when CX is 0. -/
theorem prefixRowsComplete : Obligations.PrefixRowsComplete := by
  intro s
  refine ⟨⟨rfl, rfl⟩, ⟨rfl, rfl⟩, ⟨rfl, rfl⟩, ⟨rfl, rfl⟩, ⟨rfl, rfl⟩, fun w hcx => ?_⟩
  have hnone (op : StringOp) (r : Repeat) (c : Ctx) : State.stringLoop op w c r s.cx.toNat s = s := by rw [hcx]; rfl
  refine ⟨⟨by cases w <;> rfl, ?_⟩, ⟨by cases w <;> rfl, ?_⟩⟩
  · exact congrArg (fun u : State => Host.Outcome.next (u.advance _ 1)) (hnone .stos .repe _)
  · exact congrArg (fun u : State => Host.Outcome.next (u.advance _ 1)) (hnone .scas .repne _)

/-- Settles O35: a register operand has no effective address and no far pointer. -/
theorem malformedTermsFault : Obligations.MalformedTermsFault := by
  intro ps s reg r
  simp only [exec_withPrefixes]
  exact ⟨rfl, rfl, rfl, rfl, rfl⟩

end

section
namespace Sys2Proof.Claims

open Sys2Proof Sys2Proof.Machine

/-! ## Settling what an instruction results in -/

/-- An instruction that ends in `t` advanced by its own length goes to `t` (R27, R121): the bytes are counted once, by
`Length.all`. -/
theorem Goes.of_advance {ps : List Prefix} {i : Instr} {bytes : List Byte} {s t : State} (henc : encode i = bytes)
    (hexec : execUnder (Ctx.ofPrefixes ps) i s = .next (t.advance (Ctx.ofPrefixes ps) i.len))
    (hip : t.ip = s.ip := by simp) : Goes ps i bytes s t := by
  have hlen : bytes.length = i.len := by rw [← henc]; exact Laws.Length.all i
  have hnext : (Ctx.ofPrefixes ps).next i.len t = after ps bytes s := by
    rw [Ctx.next, after, hip, Ctx.ofPrefixes_count, hlen]
  refine ⟨henc, ?_⟩
  rw [exec_withPrefixes, hexec, State.advance, hnext]
  rfl

/-- The two names of the bytes of a word (R67). -/
theorem wordBytes_eq_two (v : Word) : wordBytes v = two v := by
  rw [wordBytes, two, loByte_eq_setWidth, hiByte_eq_setWidth]

@[simp] theorem pushed_ip (s : State) (v : Word) : (pushed s v).ip = s.ip := rfl

/-- The word at SS:SP is the one a pop returns (R209). -/
theorem stackWord_zero (s : State) : stackWord s 0 = s.stackTop := by
  have hsp : s.sp + 0 = s.sp := BitVec.add_zero s.sp
  rw [stackWord, hsp]
  rfl

/-- A ModRM operand lies in a register exactly when it names that register (R106, R113). -/
theorem place_eq_reg_iff {ps : List Prefix} {rm : RM} {s : State} {r : RegNum} :
    place ps rm s = .reg r ↔ rm = .reg r := by
  cases rm <;> simp [place, Ctx.loc]

/-- The offset of a memory operand is its effective address (R113). -/
theorem effAddr?_of_place {ps : List Prefix} {rm : RM} {s : State} {sg off : Word} (h : place ps rm s = .mem sg off) :
    effAddr? rm s = some off := by
  cases rm with
  | reg r => cases h
  | direct a => cases h; rfl
  | mem b d => cases h; rfl

/-- The far pointer at a memory operand: the offset word there, the segment word two bytes on (R66). -/
theorem farPointer?_of_place {ps : List Prefix} {rm : RM} {s : State} {sg off : Word}
    (h : place ps rm s = .mem sg off) :
    (Ctx.ofPrefixes ps).farPointer? rm s =
      some (s.mem.read .word (phys sg (off + 2)), s.mem.read .word (phys sg off)) := by
  rw [place] at h
  rw [Ctx.farPointer?, h]
  rfl

end Sys2Proof.Claims

namespace Sys2Proof.Machine

open Sys2Proof

/-! ## The operands of the data transfers -/

/-- PUSH of anything but SP pushes the operand as it is (R207). -/
theorem pushValue_of_ne_sp {l : Loc} {s : State} (h : l ≠ .reg .r4) : pushValue l s = s.readLoc .word l := if_neg h

/-- The two halves of a word are written independently (R23). -/
theorem withHi_withLo (x : Word) (lo hi : Byte) : withHi (withLo x lo) hi = withLo (withHi x hi) lo := by
  rw [withHi, withLo, withLo, withHi, loByte_mkWord, hiByte_mkWord]

theorem State.setReg8_comm (s : State) {r q : RegNum} (h : r ≠ q) (v u : Byte) :
    (s.setReg8 r v).setReg8 q u = (s.setReg8 q u).setReg8 r v := by
  revert h
  cases r <;> cases q <;> simp [State.setReg8, withHi_withLo]

theorem State.setReg16_comm (s : State) {r q : RegNum} (h : r ≠ q) (v u : Word) :
    (s.setReg16 r v).setReg16 q u = (s.setReg16 q u).setReg16 r v := by
  revert h
  cases r <;> cases q <;> simp [State.setReg16]

/-- Writes of two different registers of one width can be exchanged (R22, R23). -/
theorem State.setReg_comm (s : State) (w : Width) {r q : RegNum} (h : r ≠ q) (v u : BitVec w.bits) :
    (s.setReg w r v).setReg w q u = (s.setReg w q u).setReg w r v := by
  cases w
  · exact s.setReg8_comm h v u
  · exact s.setReg16_comm h v u

theorem wordOf_eq_setWidth (w : Width) (v : BitVec w.bits) : wordOf w v = v.setWidth 16 := by
  cases w
  · rfl
  · exact (BitVec.setWidth_eq v).symm

/-- IN: the accumulator, the event and the draw (R80, R213). -/
theorem State.inPort_eq (s : State) (w : Width) (port : Word) :
    s.inPort w port =
      { s.setReg w .r0 (s.portValue w port) with
        io := s.io ++ [⟨.input, port, w, (s.portValue w port).setWidth 16⟩], draws := s.draws + 1 } := by
  rw [← wordOf_eq_setWidth]
  cases w <;> rfl

/-- OUT: the event (R80, R214). -/
theorem State.portWrite_eq (s : State) (w : Width) (port : Word) (v : BitVec w.bits) :
    s.portWrite w port v = { s with io := s.io ++ [⟨.output, port, w, v.setWidth 16⟩] } := by
  rw [State.portWrite, wordOf_eq_setWidth]

/-- The sign extension of AL: AL below a byte of copies of its sign (R222). -/
theorem withHi_sign_eq_signExtend (x : Word) :
    withHi x (if (loByte x).msb then 0xFF else 0x00) = (loByte x).signExtend 16 :=
  (BitVec.signExtend_eq_append_of_le (by decide)).symm

end Sys2Proof.Machine

open Sys2Proof Sys2Proof.Machine Sys2Proof.Claims

/-- Settles O30: each meaning is its rule as written; the direct offsets are under the override of
`segment_ofPrefixes`. -/
theorem movResults : Obligations.MovResults := by
  intro ps s
  refine ⟨fun w reg rm => ?_, fun w reg rm => ?_, fun r imm => ?_, fun r imm => ?_, fun rm imm => .of_advance rfl rfl,
    fun rm imm => ?_, fun w off => ?_, fun w off => ?_, fun rm => .of_advance rfl rfl, fun rm => .of_advance rfl rfl,
    fun rm => .of_advance rfl rfl, fun rm => .of_advance rfl rfl, fun rm => .of_advance rfl rfl,
    fun rm => .of_advance rfl rfl, fun rm => .of_advance rfl rfl, fun rm => .of_advance rfl rfl⟩
  · exact .of_advance (by cases w <;> rfl) rfl
  · exact .of_advance (by cases w <;> rfl) rfl
  · exact .of_advance (by cases r <;> rfl) rfl
  · rw [← wordBytes_eq_two]
    exact .of_advance (by cases r <;> rfl) rfl
  · rw [← wordBytes_eq_two]
    exact .of_advance rfl rfl
  · rw [← wordBytes_eq_two, ← segment_ofPrefixes]
    exact .of_advance (by cases w <;> rfl) rfl
  · rw [← wordBytes_eq_two, ← segment_ofPrefixes]
    exact .of_advance (by cases w <;> rfl) rfl

/-- Settles O31: only the operand SP is pushed decremented (`pushValue_of_ne_sp`), and an operand is SP only where the
instruction names it (`place_eq_reg_iff`). -/
theorem pushPopResults : Obligations.PushPopResults := by
  intro ps s up top
  have hup : up = s.pop16 := rfl
  have htop : top = s.stackTop := stackWord_zero s
  rw [hup, htop]
  refine ⟨fun r hr => ?_, .of_advance rfl rfl, .of_advance rfl rfl, .of_advance rfl rfl,
    .of_advance rfl rfl, .of_advance rfl rfl, fun rm hrm => ?_, .of_advance rfl rfl, fun r => ?_,
    .of_advance rfl rfl, .of_advance rfl rfl, .of_advance rfl rfl, .of_advance rfl rfl, fun rm => .of_advance rfl rfl⟩
  · have hvalue : pushValue (.reg r) s = s.reg .word r := pushValue_of_ne_sp fun h => hr (Loc.reg.inj h)
    rw [← hvalue]
    exact .of_advance (by cases r <;> rfl) rfl
  · have hvalue : pushValue (place ps rm s) s = s.readLoc .word (place ps rm s) :=
      pushValue_of_ne_sp fun h => hrm (place_eq_reg_iff.1 h)
    rw [← hvalue]
    exact .of_advance rfl rfl
  · exact .of_advance (by cases r <;> rfl) rfl

/-- Settles O32: both values are read before a write; two different registers are written in either order
(`State.setReg_comm`). -/
theorem xchgResults : Obligations.XchgResults := by
  intro ps s
  refine ⟨.of_advance rfl rfl, .of_advance rfl rfl, .of_advance rfl rfl, .of_advance rfl rfl, .of_advance rfl rfl,
    .of_advance rfl rfl, .of_advance rfl rfl, fun w reg rm => .of_advance (by cases w <;> rfl) rfl, fun w reg r => ?_⟩
  by_cases h : r = reg
  · subst h
    rfl
  · exact s.setReg_comm w h _ _

/-- Settles O33: `State.inPort_eq` gives the value and the counter, `State.portWrite_eq` the event. -/
theorem inOutResults : Obligations.InOutResults := by
  intro ps s w
  refine ⟨fun port => ⟨s.portValue w (zext16 port), s.draws + 1, ?_⟩, ⟨s.portValue w s.dx, s.draws + 1, ?_⟩,
    fun port => ?_, ?_⟩
  · exact s.inPort_eq w (zext16 port) ▸ .of_advance (by cases w <;> rfl) rfl
  · exact s.inPort_eq w s.dx ▸ .of_advance (by cases w <;> rfl) rfl
  · exact s.portWrite_eq w (zext16 port) (s.acc w) ▸ .of_advance (by cases w <;> rfl) rfl
  · exact s.portWrite_eq w s.dx (s.acc w) ▸ .of_advance (by cases w <;> rfl) rfl

/-- Settles O34: a memory operand has the effective address and the far pointer of its place. -/
theorem addressLoadResults : Obligations.AddressLoadResults := by
  intro ps s reg rm sg off h
  refine ⟨.of_advance rfl ?_, .of_advance rfl ?_, .of_advance rfl ?_⟩
  · rw [execUnder_lea, execLea, effAddr?_of_place h]
    rfl
  · rw [execUnder_lds, execLds, farPointer?_of_place h]
    rfl
  · rw [execUnder_les, execLes, farPointer?_of_place h]
    rfl

/-- Settles O36: each meaning is its rule as written, with the masks of R30. -/
theorem flagTransferResults : Obligations.FlagTransferResults := by
  intro ps s
  rw [← loByte_eq_setWidth, stackWord_zero]
  exact ⟨.of_advance rfl rfl, .of_advance rfl rfl, .of_advance rfl rfl, .of_advance rfl rfl⟩

/-- Settles O37: AH and DX take the sign of AL and AX; the table is under the override of `segment_ofPrefixes`. -/
theorem conversionResults : Obligations.ConversionResults := by
  intro ps s
  refine ⟨?_, ?_, ?_⟩
  · have hsign : withHi s.ax _ = (s.reg .byte .r0).signExtend 16 := withHi_sign_eq_signExtend s.ax
    rw [← hsign]
    exact .of_advance rfl rfl
  · have hmsb : s.ax.msb = s.ax.getLsbD 15 := BitVec.msb_eq_getLsbD_last s.ax
    rw [← hmsb]
    exact .of_advance rfl rfl
  · rw [← segment_ofPrefixes]
    exact .of_advance rfl rfl
end

section
namespace Sys2Proof.Claims

open Sys2Proof Sys2Proof.Machine

/-! ## What a flag operation makes of FLAGS -/

/-- A count is even when the sum modulo 2 is 0. -/
theorem even_countP_eq_not_xor {α : Type} (p : α → Bool) (l : List α) :
    (l.countP p % 2 == 0) = !l.foldr (fun x b => Bool.xor (p x) b) false := by
  induction l with
  | nil => rfl
  | cons x l ih =>
    rw [List.countP_cons, List.foldr_cons]
    cases hx : p x
    · simpa using ih
    · simp only [if_true, Bool.true_xor, ← ih]
      rw [Bool.eq_iff_iff]
      simp
      omega

/-- The parity of the low byte, counted or as a sum modulo 2 (R8). -/
theorem parity8_eq_evenParity {n : Nat} (r : BitVec n) : parity8 r = evenParity r := by
  have hrange : List.range 8 = [0, 1, 2, 3, 4, 5, 6, 7] := rfl
  rw [parity8, even_countP_eq_not_xor, hrange, evenParity]
  simp only [List.foldr_cons, List.foldr_nil, Bool.xor_false]

namespace FlagsBecome

variable {set set' : List (Nat × Bool)} {free : List Nat} {old new : Word}

theorem refl (fl : Word) : FlagsBecome [] free fl fl := ⟨by simp, fun _ _ _ => rfl⟩

/-- The order in which the bits are listed does not matter. -/
theorem perm (h : FlagsBecome set free old new) (hp : set.Perm set') : FlagsBecome set' free old new :=
  ⟨fun p hmem => h.1 p (hp.mem_iff.2 hmem),
    fun b hset hfree => h.2 b (fun hmem => hset ((hp.map _).mem_iff.1 hmem)) hfree⟩

/-- A single-flag write adds its bit to those of `set` (R31). -/
theorem setFlag {f : Flag} {b : Bool} (h : FlagsBecome set free old new)
    (hf : f.bit ∉ set.map Prod.fst := by simp [Flag.bit]) :
    FlagsBecome (set ++ [(f.bit, b)]) free old (setFlag new f b) := by
  obtain ⟨hset, hother⟩ := h
  refine ⟨fun p hp => ?_, fun k hk hfree => ?_⟩
  · rw [getLsbD_setFlag]
    rcases List.mem_append.1 hp with hp | hp
    · rw [if_neg fun hbit => hf (List.mem_map.2 ⟨p, hp, hbit⟩), hset p hp]
    · rw [List.mem_singleton.1 hp, if_pos rfl]
  · rw [List.map_append, List.mem_append, not_or] at hk
    obtain ⟨hk, hkf⟩ := hk
    rw [getLsbD_setFlag, if_neg fun hbit => hkf (List.mem_singleton.2 hbit), hother k hk hfree]

/-- SF, ZF and PF of a result (R8). -/
theorem setSZP {n : Nat} (r : BitVec n) (h : FlagsBecome set free old new)
    (hsf : 7 ∉ set.map Prod.fst := by simp [Flag.bit]) (hzf : 6 ∉ set.map Prod.fst := by simp [Flag.bit])
    (hpf : 2 ∉ set.map Prod.fst := by simp [Flag.bit]) : FlagsBecome (set ++ szp r) free old (setSZP r new) := by
  have hzero : (r == 0) = decide (r.toNat = 0) := by
    rw [Bool.eq_iff_iff, beq_iff_eq, decide_eq_true_iff, BitVec.toNat_eq]
    rfl
  rw [szp, ← BitVec.msb_eq_getLsbD_last, ← hzero, ← parity8_eq_evenParity]
  have hs := h.setFlag (f := .sf) (b := r.msb) hsf
  have hsz := hs.setFlag (f := .zf) (b := r == 0) (by simpa [Flag.bit] using hzf)
  have hszp := hsz.setFlag (f := .pf) (b := parity8 r) (by simpa [Flag.bit] using hpf)
  rw [List.append_assoc, List.append_assoc] at hszp
  exact hszp

/-- A flag that was saved and put back is as before (R257, R258). -/
theorem restore {f : Flag} {b : Bool} (h : FlagsBecome ((f.bit, b) :: set) free old new)
    (hf : f.bit ∉ set.map Prod.fst := by simp [szp, Flag.bit]) :
    FlagsBecome set free old (Machine.setFlag new f (getFlag old f)) := by
  obtain ⟨hset, hother⟩ := h
  refine ⟨fun p hp => ?_, fun k hk hfree => ?_⟩
  · rw [getLsbD_setFlag, if_neg fun hbit => hf (List.mem_map.2 ⟨p, hp, hbit⟩), hset p (List.mem_cons_of_mem _ hp)]
  · rw [getLsbD_setFlag]
    split
    · next hbit => rw [hbit]; rfl
    · next hbit => exact hother k (fun hmem => (List.mem_cons.1 hmem).elim hbit hk) hfree

/-- Undefined flags become free (R38). -/
theorem undef {v : Word} {fs : List Flag} (h : FlagsBecome set [] old new)
    (hset : ∀ f ∈ fs, f.bit ∉ set.map Prod.fst := by simp [szp, Flag.bit])
    (hfree : ∀ f ∈ fs, f.bit ∈ free := by simp [Flag.bit]) :
    FlagsBecome set free old (undefFlags v fs new) := by
  obtain ⟨hset', hother⟩ := h
  refine ⟨fun p hp => ?_, fun k hk hk' => ?_⟩
  · rw [getLsbD_undefFlags, if_neg, hset' p hp]
    intro hmem
    obtain ⟨f, hf, hbit⟩ := List.mem_map.1 hmem
    exact hset f hf (List.mem_map.2 ⟨p, hp, hbit.symm⟩)
  · rw [getLsbD_undefFlags, if_neg, hother k hk List.not_mem_nil]
    intro hmem
    obtain ⟨f, hf, rfl⟩ := List.mem_map.1 hmem
    exact hk' (hfree f hf)

/-- The six flags of `AddFlags` in the equivalent forms of R251. -/
theorem addFlags {w : Width} (a b : BitVec w.bits) (c : Bool) (fl : Word) :
    FlagsBecome
      ([(0, decide (2 ^ w.bits ≤ a.toNat + b.toNat + c.toNat)), (4, auxCarry a b (addResult a b c)),
        (11, outOfRange w.bits (a.toInt + b.toInt + c.toNat))] ++ szp (addResult a b c)) [] fl
      (addFlags a b c fl) := by
  have hof := of_add w a b c
  rw [signedOut, ← outOfRange] at hof
  rw [auxCarry, ← af_add, ← hof]
  exact ((((refl fl).setFlag (f := .cf)).setFlag (f := .af)).setFlag (f := .of)).setSZP _

/-- The six flags of `SubFlags` in the equivalent forms of R251. -/
theorem subFlags {w : Width} (a b : BitVec w.bits) (c : Bool) (fl : Word) :
    SubFlagsAre a b c.toNat fl (subFlags a b c fl) := by
  have hof := of_sub w a b c
  have hcf : decide ((a.toNat : Int) - b.toNat - c.toNat < 0) = decide (a.toNat < b.toNat + c.toNat) := by
    congr 1
    rw [eq_iff_iff]
    omega
  rw [signedOut, ← outOfRange] at hof
  rw [SubFlagsAre, ← subResult_eq, auxCarry, ← af_sub, ← hof, ← hcf]
  exact ((((refl fl).setFlag (f := .cf)).setFlag (f := .af)).setFlag (f := .of)).setSZP _

end FlagsBecome

end Sys2Proof.Claims
end

section
namespace Sys2Proof.Claims

open Sys2Proof Sys2Proof.Machine

/-! ## The two-operand instructions (R250) -/

/-- An instruction that ends in `t` advanced by the length of its bytes goes to `t` (R27, R121). -/
theorem Goes.of_advance_length {ps : List Prefix} {i : Instr} {bytes : List Byte} {s t : State} {n : Nat}
    (henc : encode i = bytes) (hexec : execUnder (Ctx.ofPrefixes ps) i s = .next (t.advance (Ctx.ofPrefixes ps) n))
    (hip : t.ip = s.ip := by simp) (hn : bytes.length = n := by simp <;> omega) : Goes ps i bytes s t := by
  have hlen : i.len = n := by rw [← Laws.Length.all i, henc, hn]
  exact .of_advance henc (hlen ▸ hexec) hip

/-- The instructions of a block are the seven forms of one operator: their meanings and their encodings (R250, R124).
For a given block each field holds by computation, which is the default of the fields. -/
structure Forms.Of (F : Forms) (op : AluOp) : Prop where
  rmReg : ∀ c d w reg rm s, execUnder c (F.rmReg d w reg rm) s = .next (aluRmReg op d w reg rm c s) := by intros; rfl
  al : ∀ c imm s, execUnder c (F.al imm) s = .next (aluAl op imm c s) := by intros; rfl
  ax : ∀ c imm s, execUnder c (F.ax imm) s = .next (aluAx op imm c s) := by intros; rfl
  rm8Imm8 : ∀ c rm imm s, execUnder c (F.rm8Imm8 rm imm) s = .next (aluRm8Imm8 op rm imm c s) := by intros; rfl
  rm16Imm16 : ∀ c rm imm s, execUnder c (F.rm16Imm16 rm imm) s = .next (aluRm16Imm16 op rm imm c s) := by intros; rfl
  rm8Imm8Alt : ∀ c rm imm s, execUnder c (F.rm8Imm8Alt rm imm) s = .next (aluRm8Imm8 op rm imm c s) := by intros; rfl
  rm16Imm8 : ∀ c rm imm s, execUnder c (F.rm16Imm8 rm imm) s = .next (aluRm16Imm8 op rm imm c s) := by intros; rfl
  encode_toRM : ∀ w reg rm, encode (F.rmReg .toRM w reg rm) = byW w F.base (F.base + 1) :: encodeModRM reg rm
    := by rintro (_ | _) _ _ <;> rfl
  encode_toReg : ∀ w reg rm, encode (F.rmReg .toReg w reg rm) = byW w (F.base + 2) (F.base + 3) :: encodeModRM reg rm
    := by rintro (_ | _) _ _ <;> rfl
  encode_al : ∀ imm, encode (F.al imm) = [F.base + 4, imm] := by intros; rfl
  encode_ax : ∀ imm, encode (F.ax imm) = (F.base + 5) :: wordBytes imm := by intros; rfl
  encode_rm8Imm8 : ∀ rm imm, encode (F.rm8Imm8 rm imm) = 0x80 :: encodeModRM F.sub rm ++ [imm] := by intros; rfl
  encode_rm16Imm16 : ∀ rm imm, encode (F.rm16Imm16 rm imm) = 0x81 :: encodeModRM F.sub rm ++ wordBytes imm
    := by intros; rfl
  encode_rm8Imm8Alt : ∀ rm imm, encode (F.rm8Imm8Alt rm imm) = 0x82 :: encodeModRM F.sub rm ++ [imm] := by intros; rfl
  encode_rm16Imm8 : ∀ rm imm, encode (F.rm16Imm8 rm imm) = 0x83 :: encodeModRM F.sub rm ++ [imm] := by intros; rfl

/-- A block has every effect that its operator has on a location and a value. -/
theorem Forms.Of.have_of_alu {F : Forms} {op : AluOp} {eff : Effect} (h : F.Of op)
    (heff : ∀ w dst b s, eff w dst b s (s.alu op w dst b)) : F.Have eff := by
  intro ps s
  refine ⟨fun w reg rm => ⟨_, .of_advance_length (h.encode_toRM w reg rm) (h.rmReg ..), heff ..⟩,
    fun w reg rm => ⟨_, .of_advance_length (h.encode_toReg w reg rm) (h.rmReg ..), heff ..⟩,
    fun imm => ⟨_, .of_advance_length (h.encode_al imm) (h.al ..), heff ..⟩, fun imm => ?_,
    fun rm imm => ⟨_, .of_advance_length (h.encode_rm8Imm8 rm imm) (h.rm8Imm8 ..), heff ..⟩, fun rm imm => ?_,
    fun rm imm => ⟨_, .of_advance_length (h.encode_rm8Imm8Alt rm imm) (h.rm8Imm8Alt ..), heff ..⟩,
    fun rm imm => ⟨_, .of_advance_length (h.encode_rm16Imm8 rm imm) (h.rm16Imm8 ..), heff ..⟩⟩
  · rw [← wordBytes_eq_two]
    exact ⟨_, .of_advance_length (h.encode_ax imm) (h.ax ..), heff ..⟩
  · rw [← wordBytes_eq_two]
    exact ⟨_, .of_advance_length (h.encode_rm16Imm16 rm imm) (h.rm16Imm16 ..), heff ..⟩

theorem addForms_of_add : addForms.Of .add := {}

theorem adcForms_of_adc : adcForms.Of .adc := {}

theorem subForms_of_sub : subForms.Of .sub := {}

theorem sbbForms_of_sbb : sbbForms.Of .sbb := {}

theorem cmpForms_of_cmp : cmpForms.Of .cmp := {}

/-- AddFlags on a location has the effect of an addition (R251). -/
theorem addsInto_writeLoc (carry : State → Bool) (w : Width) (dst : Loc) (b : BitVec w.bits) (s : State) :
    addsInto carry w dst b s
      ((s.setFlags (addFlags (s.readLoc w dst) b (carry s) s.flags)).writeLoc w dst
        (addResult (s.readLoc w dst) b (carry s))) := by
  rw [addsInto, ← addResult_eq, State.setFlags_writeLoc]
  exact ⟨_, rfl, .addFlags ..⟩

/-- SubFlags on a location has the effect of a subtraction (R251). -/
theorem subtractsFrom_writeLoc (carry : State → Bool) (w : Width) (dst : Loc) (b : BitVec w.bits) (s : State) :
    subtractsFrom carry w dst b s
      ((s.setFlags (subFlags (s.readLoc w dst) b (carry s) s.flags)).writeLoc w dst
        (subResult (s.readLoc w dst) b (carry s))) := by
  rw [subtractsFrom, ← subResult_eq, State.setFlags_writeLoc]
  exact ⟨_, rfl, .subFlags ..⟩

end Sys2Proof.Claims

open Sys2Proof Sys2Proof.Machine Sys2Proof.Claims

/-- Settles O38: both blocks are `AddFlags` on a location, with 0 or CF as the carry in. -/
theorem addAdcResults : Obligations.AddAdcResults :=
  ⟨addForms_of_add.have_of_alu (addsInto_writeLoc _), adcForms_of_adc.have_of_alu (addsInto_writeLoc _)⟩

/-- Settles O39: SUB and SBB are `SubFlags` on a location, with 0 or CF as the borrow in; CMP keeps the flags alone. -/
theorem subSbbCmpResults : Obligations.SubSbbCmpResults :=
  ⟨subForms_of_sub.have_of_alu (subtractsFrom_writeLoc _), sbbForms_of_sbb.have_of_alu (subtractsFrom_writeLoc _),
    cmpForms_of_cmp.have_of_alu fun _ _ _ _ => ⟨_, rfl, .subFlags _ _ false _⟩⟩

end

section
namespace Sys2Proof.Claims

open Sys2Proof Sys2Proof.Machine

/-! ## INC, DEC, NEG and NOT (R257 to R259, R305) -/

theorem addResult_one (w : Width) (a : BitVec w.bits) : addResult a 1 false = a + 1 := by
  rw [addResult_eq]
  exact BitVec.add_zero _

theorem subResult_no_borrow (w : Width) (a b : BitVec w.bits) : subResult a b false = a - b := by
  rw [subResult_eq]
  exact BitVec.sub_zero _

theorem toInt_one (w : Width) : (1 : BitVec w.bits).toInt = 1 := by cases w <;> rfl

/-- INC adds 1 and sets five flags, CF put back (R257). -/
theorem inc_becomes (s : State) (w : Width) (l : Loc) :
    ∃ fl, s.inc w l = { s.writeLoc w l (s.readLoc w l + 1) with flags := fl } ∧
      FlagsBecome ([(4, auxCarry (s.readLoc w l) 1 (s.readLoc w l + 1)),
        (11, outOfRange w.bits ((s.readLoc w l).toInt + 1))] ++ szp (s.readLoc w l + 1)) [] s.flags fl := by
  have hflags := FlagsBecome.addFlags (s.readLoc w l) 1 false s.flags
  rw [addResult_one, toInt_one, Bool.toNat_false, Nat.cast_zero, Int.add_zero] at hflags
  rw [State.inc, addResult_one, State.setFlags_writeLoc]
  exact ⟨_, rfl, hflags.restore (f := .cf)⟩

/-- DEC subtracts 1 and sets five flags, CF put back (R258). -/
theorem dec_becomes (s : State) (w : Width) (l : Loc) :
    ∃ fl, s.dec w l = { s.writeLoc w l (s.readLoc w l - 1) with flags := fl } ∧
      FlagsBecome ([(4, auxCarry (s.readLoc w l) 1 (s.readLoc w l - 1)),
        (11, outOfRange w.bits ((s.readLoc w l).toInt - 1))] ++ szp (s.readLoc w l - 1)) [] s.flags fl := by
  have hflags := FlagsBecome.subFlags (s.readLoc w l) 1 false s.flags
  rw [SubFlagsAre, ← subResult_eq, subResult_no_borrow, toInt_one, Bool.toNat_false, Nat.cast_zero,
    Int.sub_zero] at hflags
  rw [State.dec, subResult_no_borrow, State.setFlags_writeLoc]
  exact ⟨_, rfl, hflags.restore (f := .cf)⟩

/-- The flags of `SubFlags(N, 0, a, 0)` (R259). -/
theorem subFlags_zero_left {w : Width} (a : BitVec w.bits) (fl : Word) :
    FlagsBecome
      ([(0, decide (a.toNat ≠ 0)), (11, decide (a.toNat = 2 ^ (w.bits - 1))), (4, decide (a.toNat % 16 ≠ 0))] ++
        szp (0 - a)) [] fl (subFlags 0 a false fl) := by
  have hflags := FlagsBecome.subFlags 0 a false fl
  have hint : (0 : BitVec w.bits).toInt = 0 := BitVec.toInt_zero
  have hnat : (0 : BitVec w.bits).toNat = 0 := rfl
  have hcf : decide ((0 : BitVec w.bits).toNat < a.toNat + false.toNat) = decide (a.toNat ≠ 0) := by
    simp [Nat.pos_iff_ne_zero]
  have haf : auxCarry 0 a (0 - a) = decide (a.toNat % 16 ≠ 0) := by
    rw [auxCarry, ← subResult_no_borrow, ← af_sub, nibble, nibble, hnat, Bool.toNat_false]
    congr 1
    rw [eq_iff_iff]
    omega
  have hof : outOfRange w.bits ((0 : BitVec w.bits).toInt - a.toInt - (false.toNat : Nat)) =
      decide (a.toNat = 2 ^ (w.bits - 1)) := by
    have ha := a.isLt
    rw [outOfRange, decide_eq_decide, hint, BitVec.toInt_eq_toNat_cond, Bool.toNat_false]
    cases w <;> simp only [Width.bits] at * <;> split <;> omega
  rw [SubFlagsAre, ← subResult_eq, subResult_no_borrow, haf, hcf, hof] at hflags
  exact hflags.perm (.cons _ (.swap ..))

theorem not_eq_ofNat {n : Nat} (a : BitVec n) : ~~~a = BitVec.ofNat n (2 ^ n - 1 - a.toNat) :=
  BitVec.eq_of_toNat_eq (by rw [BitVec.toNat_not, BitVec.toNat_ofNat, Nat.mod_eq_of_lt (by have := a.isLt; omega)])

end Sys2Proof.Claims

open Sys2Proof Sys2Proof.Machine Sys2Proof.Claims

/-- Settles O40: INC and DEC are one operation each on a location (`inc_becomes`, `dec_becomes`). -/
theorem incDecResults : Obligations.IncDecResults := by
  intro ps s
  refine ⟨fun r => ⟨_, .of_advance (by cases r <;> rfl) rfl, inc_becomes ..⟩,
    fun w rm => ⟨_, .of_advance (by cases w <;> rfl) rfl, inc_becomes ..⟩,
    fun r => ⟨_, .of_advance (by cases r <;> rfl) rfl, dec_becomes ..⟩,
    fun w rm => ⟨_, .of_advance (by cases w <;> rfl) rfl, dec_becomes ..⟩⟩

/-- Settles O41: NEG is `SubFlags` with 0 on the left; the complement is the distance from the greatest value. -/
theorem negNotResults : Obligations.NegNotResults := by
  intro ps s w rm l a
  have hneg : s.neg w l = { s.writeLoc w l (0 - a) with flags := subFlags 0 a false s.flags } := by
    rw [State.neg, subResult_no_borrow, State.setFlags_writeLoc]
    rfl
  refine ⟨⟨_, ?_, subFlags_zero_left a s.flags⟩, ?_⟩
  · rw [← hneg]
    exact .of_advance (by cases w <;> rfl) rfl
  · rw [← not_eq_ofNat]
    exact .of_advance (by cases w <;> rfl) rfl

end

section
namespace Sys2Proof.Machine

open Sys2Proof

/-! ## Results in one and in two registers -/

theorem mkWord_eq_ofNat (h l : Byte) : mkWord h l = BitVec.ofNat 16 (h.toNat * 0x100 + l.toNat) := by
  apply BitVec.eq_of_toNat_eq
  rw [mkWord_toNat, BitVec.toNat_ofNat]
  omega

/-- Two numbers that fit a byte each, side by side in a word (R20). -/
theorem mkWord_ofNat {h l : Nat} (hh : h < 0x100) (hl : l < 0x100) :
    mkWord (BitVec.ofNat 8 h) (BitVec.ofNat 8 l) = BitVec.ofNat 16 (h * 0x100 + l) := by
  rw [mkWord_eq_ofNat, BitVec.toNat_ofNat, BitVec.toNat_ofNat, Nat.mod_eq_of_lt hh, Nat.mod_eq_of_lt hl]

theorem toNat_append_words (h l : Word) : (h ++ l).toNat = h.toNat * 0x10000 + l.toNat := by
  rw [BitVec.toNat_append, ← Nat.shiftLeft_add_eq_or_of_lt l.isLt, Nat.shiftLeft_eq]

/-- The low half of a double-width product (R260, R261). -/
theorem extractLsb'_low_ofInt (p : Int) : (BitVec.ofInt 32 p).extractLsb' 0 16 = BitVec.ofInt 16 p := by
  apply BitVec.eq_of_toNat_eq
  rw [BitVec.extractLsb'_toNat, Nat.shiftRight_zero, BitVec.toNat_ofInt, BitVec.toNat_ofInt]
  omega

/-- The high half of a double-width product; the quotient rounds down, also of a negative product (R260, R261). -/
theorem extractLsb'_high_ofInt (p : Int) : (BitVec.ofInt 32 p).extractLsb' 16 16 = BitVec.ofInt 16 (p / 0x10000) := by
  apply BitVec.eq_of_toNat_eq
  rw [BitVec.extractLsb'_toNat, Nat.shiftRight_eq_div_pow, BitVec.toNat_ofInt, BitVec.toNat_ofInt]
  omega

/-- The word product as its two halves (R260, R261). -/
theorem State.setProduct_word (s : State) (p : Int) :
    s.setProduct .word p = { s with ax := BitVec.ofInt 16 p, dx := BitVec.ofInt 16 (p / 0x10000) } := by
  rw [← extractLsb'_low_ofInt, ← extractLsb'_high_ofInt]
  rfl

end Sys2Proof.Machine

namespace Sys2Proof.Claims

open Sys2Proof Sys2Proof.Machine

/-! ## MUL and IMUL (R260, R261) -/

/-- A product in the accumulators: CF and OF say whether it is big; SF, ZF, AF and PF are free (R260, R261). -/
theorem goes_product {ps : List Prefix} {i : Instr} {bytes : List Byte} {s : State} {w : Width} {p : Int} {big : Bool}
    (henc : encode i = bytes)
    (hexec : execUnder (Ctx.ofPrefixes ps) i s =
      .next (((s.setProduct w p).setProductFlags big).advance (Ctx.ofPrefixes ps) i.len)) :
    ∃ fl n, Goes ps i bytes s { s.setProduct w p with flags := fl, draws := n } ∧
      FlagsBecome [(0, big), (11, big)] [2, 4, 6, 7] s.flags fl := by
  have hflags : FlagsBecome [(0, big), (11, big)] [2, 4, 6, 7] (s.setProduct w p).flags
      ((s.setProduct w p).setProductFlags big).flags :=
    (((FlagsBecome.refl _).setFlag (f := .cf)).setFlag (f := .of)).undef
  rw [State.setProduct_flags] at hflags
  exact ⟨_, _, .of_advance henc hexec, hflags⟩

/-- A product that does not fit the width, as the range of R251 says it. -/
theorem not_fits_eq_outOfRange (n : Nat) (p : Int) :
    (!decide (-2 ^ (n - 1) ≤ p ∧ p < 2 ^ (n - 1))) = outOfRange n p := by
  rw [← decide_not, outOfRange]
  congr 1
  rw [eq_iff_iff]
  omega

theorem le_product_eq_high_ne_zero (n p : Nat) : decide (2 ^ n ≤ p) = decide (p / 2 ^ n ≠ 0) := by
  simp [Nat.div_eq_zero_iff]

/-- MUL of either width (R260). -/
theorem mul_becomes (ps : List Prefix) (s : State) (w : Width) (rm : RM) (p : Nat)
    (hp : p = mulProduct (s.acc w) (s.readLoc w (place ps rm s))) :
    ∃ fl n, Goes ps (.mulRm w rm) (byW w 0xF6 0xF7 :: encodeModRM .r4 rm) s
        { s.setProduct w p with flags := fl, draws := n } ∧
      FlagsBecome [(0, decide (p / 2 ^ w.bits ≠ 0)), (11, decide (p / 2 ^ w.bits ≠ 0))] [2, 4, 6, 7]
        s.flags fl := by
  rw [← le_product_eq_high_ne_zero]
  exact goes_product (by cases w <;> rfl) (hp ▸ rfl)

/-- IMUL of either width (R261). -/
theorem imul_becomes (ps : List Prefix) (s : State) (w : Width) (rm : RM) (p : Int)
    (hp : p = imulProduct (s.acc w) (s.readLoc w (place ps rm s))) :
    ∃ fl n, Goes ps (.imulRm w rm) (byW w 0xF6 0xF7 :: encodeModRM .r5 rm) s
        { s.setProduct w p with flags := fl, draws := n } ∧
      FlagsBecome [(0, outOfRange w.bits p), (11, outOfRange w.bits p)] [2, 4, 6, 7] s.flags fl := by
  rw [← not_fits_eq_outOfRange]
  exact goes_product (by cases w <;> rfl) (hp ▸ rfl)

end Sys2Proof.Claims

open Sys2Proof Sys2Proof.Machine Sys2Proof.Claims

/-- Settles O42: `mul_becomes` and `imul_becomes` at each width; the word product is read as its two halves. -/
theorem mulImulResults : Obligations.MulImulResults := by
  intro ps s rm b v al flags
  have hmul := mul_becomes ps s .word rm _ rfl
  have himul := imul_becomes ps s .word rm _ rfl
  rw [State.setProduct_word] at hmul himul
  exact ⟨mul_becomes ps s .byte rm _ rfl, hmul, imul_becomes ps s .byte rm _ rfl, himul⟩

end

section
namespace Sys2Proof.Claims

open Sys2Proof Sys2Proof.Machine

/-! ## DIV and IDIV (R262, R263) -/

/-- A division that succeeds: quotient and remainder, and six free flags (R262, R263). -/
theorem goes_quotient {ps : List Prefix} {i : Instr} {bytes : List Byte} {s : State} {w : Width} {rm : RM}
    {res : Except FaultCause (BitVec w.bits × BitVec w.bits)} {q r : BitVec w.bits} (henc : encode i = bytes)
    (hexec : execUnder (Ctx.ofPrefixes ps) i s = .next (s.finishDivide w rm (Ctx.ofPrefixes ps) res))
    (hres : res = .ok (q, r)) (hlen : i.len = 2 + rm.dispLen := by rfl) :
    ∃ fl k, Goes ps i bytes s { s.setQuotient w q r with flags := fl, draws := k } ∧
      FlagsBecome [] [0, 2, 4, 6, 7, 11] s.flags fl := by
  have hflags : FlagsBecome [] [0, 2, 4, 6, 7, 11] (s.setQuotient w q r).flags
      ((s.setQuotient w q r).undef statusFlags).flags :=
    (FlagsBecome.refl _).undef (by simp) (by simp [statusFlags, Flag.bit])
  rw [State.setQuotient_flags] at hflags
  rw [hres, State.finishDivide, ← hlen] at hexec
  exact ⟨_, _, .of_advance (t := (s.setQuotient w q r).undef statusFlags) henc hexec, hflags⟩

/-- A division that does not: the fault, and nothing else (R262, R263, R503). -/
theorem exec_divide_fault {ps : List Prefix} {i : Instr} {s : State} {w : Width} {rm : RM}
    {res : Except FaultCause (BitVec w.bits × BitVec w.bits)} {cause : FaultCause}
    (hexec : execUnder (Ctx.ofPrefixes ps) i s = .next (s.finishDivide w rm (Ctx.ofPrefixes ps) res))
    (hres : res = .error cause) : exec (i.withPrefixes ps) s = .next (faulted s cause (byW w 0xF6 0xF7) none) := by
  rw [exec_withPrefixes, hexec, hres]
  cases w <;> rfl

/-- DIV of either width (R262). -/
theorem div_outcomes (ps : List Prefix) (s : State) (w : Width) (rm : RM) {n d : Nat} (hn : (s.dividend w).toNat = n)
    (hd : (s.readLoc w (place ps rm s)).toNat = d) :
    (d ≠ 0 → n / d < 2 ^ w.bits → ∃ fl k,
      Goes ps (.divRm w rm) (byW w 0xF6 0xF7 :: encodeModRM .r6 rm) s
        { s.setQuotient w (BitVec.ofNat w.bits (n / d)) (BitVec.ofNat w.bits (n % d)) with flags := fl, draws := k } ∧
      FlagsBecome [] [0, 2, 4, 6, 7, 11] s.flags fl) ∧
    (d = 0 → exec ((Instr.divRm w rm).withPrefixes ps) s =
      .next (faulted s .divideByZero (byW w 0xF6 0xF7) none)) ∧
    (d ≠ 0 → 2 ^ w.bits ≤ n / d → exec ((Instr.divRm w rm).withPrefixes ps) s =
      .next (faulted s .divideOverflow (byW w 0xF6 0xF7) none)) := by
  subst hn hd
  exact ⟨fun hd hq => goes_quotient (by cases w <;> rfl) rfl (unsignedDivide_fits _ _ hd hq),
    fun hd => exec_divide_fault rfl (unsignedDivide_zero _ _ hd),
    fun hd hq => exec_divide_fault rfl (unsignedDivide_large _ _ hd hq)⟩

/-- IDIV of either width, its quotient and remainder given by their law (R263). -/
theorem idiv_outcomes (ps : List Prefix) (s : State) (w : Width) (rm : RM) {n d q r : Int}
    (hn : (s.dividend w).toInt = n) (hd : (s.readLoc w (place ps rm s)).toInt = d) (hnq : n = q * d + r)
    (hr : r.natAbs < d.natAbs) (hpos : 0 ≤ n → 0 ≤ r) (hneg : n ≤ 0 → r ≤ 0) :
    (-(2 ^ (w.bits - 1) - 1) ≤ q → q ≤ 2 ^ (w.bits - 1) - 1 → ∃ fl k,
      Goes ps (.idivRm w rm) (byW w 0xF6 0xF7 :: encodeModRM .r7 rm) s
        { s.setQuotient w (BitVec.ofInt w.bits q) (BitVec.ofInt w.bits r) with flags := fl, draws := k } ∧
      FlagsBecome [] [0, 2, 4, 6, 7, 11] s.flags fl) ∧
    (q < -(2 ^ (w.bits - 1) - 1) ∨ 2 ^ (w.bits - 1) - 1 < q → exec ((Instr.idivRm w rm).withPrefixes ps) s =
      .next (faulted s .divideOverflow (byW w 0xF6 0xF7) none)) := by
  have hd0 : d ≠ 0 := by omega
  obtain ⟨rfl, rfl⟩ := truncated_unique hnq hr hpos hneg
  subst hn hd
  exact ⟨fun hlo hhi => goes_quotient (by cases w <;> rfl) rfl (signedDivide_fits _ _ hd0 hlo hhi),
    fun hq => exec_divide_fault rfl (signedDivide_large _ _ hd0 hq)⟩

theorem idiv_zero (ps : List Prefix) (s : State) (w : Width) (rm : RM)
    (hd : (s.readLoc w (place ps rm s)).toInt = 0) :
    exec ((Instr.idivRm w rm).withPrefixes ps) s = .next (faulted s .divideByZero (byW w 0xF6 0xF7) none) :=
  exec_divide_fault rfl (signedDivide_zero _ _ hd)

end Sys2Proof.Claims

open Sys2Proof Sys2Proof.Machine Sys2Proof.Claims

/-- Settles O43: `div_outcomes` at each width; a remainder is below the divisor and so fits its half of AX. -/
theorem divResults : Obligations.DivResults := by
  intro ps s rm b v n i8 i16
  obtain ⟨hbfits, hbzero, hblarge⟩ := div_outcomes ps s .byte rm rfl rfl
  obtain ⟨hvfits, hvzero, hvlarge⟩ := div_outcomes ps s .word rm (toNat_append_words s.dx s.ax) rfl
  refine ⟨fun hb hq => ?_, hbzero, hblarge, fun hv hq => hvfits hv (Nat.lt_succ_of_le hq), hvzero, hvlarge⟩
  have hr : s.ax.toNat % b < 0x100 :=
    (Nat.mod_lt _ (Nat.pos_of_ne_zero hb)).trans (s.readLoc .byte (place ps rm s)).isLt
  rw [← mkWord_ofNat hr (Nat.lt_succ_of_le hq)]
  exact hbfits hb (Nat.lt_succ_of_le hq)

/-- Settles O44: `idiv_outcomes` at each width. -/
theorem idivResults : Obligations.IdivResults := by
  intro ps s rm b v n8 n16 divides i8 i16
  refine ⟨idiv_zero ps s .byte rm, fun q r h => ?_, idiv_zero ps s .word rm, fun q r h => ?_⟩
  · obtain ⟨hnq, hr, hpos, hneg⟩ := h
    exact idiv_outcomes ps s .byte rm rfl rfl hnq hr hpos hneg
  · obtain ⟨hnq, hr, hpos, hneg⟩ := h
    exact idiv_outcomes ps s .word rm rfl rfl hnq hr hpos hneg

end

section
namespace Sys2Proof.Claims

open Sys2Proof Sys2Proof.Machine

/-! ## The BCD adjustments (R264 to R269) -/

/-- Two adjustments one after the other are one, by their sum (R265, R267). -/
theorem adjust_adjust (lo hi : Bool) (al six sixty : Byte) :
    (if hi then (if lo then al + six else al) + sixty else if lo then al + six else al) =
      al + ((if lo then six else 0) + if hi then sixty else 0) := by
  cases lo <;> cases hi <;> simp [BitVec.add_assoc]

/-- DAS adjusts by the negative of what DAA adjusts by (R265, R267). -/
theorem adjust_neg : ∀ lo hi : Bool, (if lo then (-6 : Byte) else 0) + (if hi then -0x60 else 0) =
    -((if lo then 6 else 0) + if hi then 0x60 else 0) := by decide

/-- AAA and AAS: the halves of AX, AF and CF; OF, SF, ZF and PF are free (R264, R266). -/
theorem goes_asciiAdjust {ps : List Prefix} {i : Instr} {bytes : List Byte} {s : State} {six one : Byte}
    (henc : encode i = bytes)
    (hexec : execUnder (Ctx.ofPrefixes ps) i s = .next ((s.asciiAdjust six one).advance (Ctx.ofPrefixes ps) i.len)) :
    ∃ fl n, Goes ps i bytes s
        { s with
          ax := mkWord (if s.lowNibbleAdjusts then hiByte s.ax + one else hiByte s.ax)
            ((if s.lowNibbleAdjusts then loByte s.ax + six else loByte s.ax) &&& 0x0F)
          flags := fl, draws := n } ∧
      FlagsBecome [(4, s.lowNibbleAdjusts), (0, s.lowNibbleAdjusts)] [11, 7, 6, 2] s.flags fl := by
  have hflags : FlagsBecome [(4, s.lowNibbleAdjusts), (0, s.lowNibbleAdjusts)] [11, 7, 6, 2] s.flags
      (s.asciiAdjust six one).flags :=
    (((FlagsBecome.refl _).setFlag (f := .af)).setFlag (f := .cf)).undef
  exact ⟨_, s.draws + 1, .of_advance (t := s.asciiAdjust six one) henc hexec, hflags⟩

/-- DAA and DAS: AL and five flags; OF is free (R265, R267). -/
theorem goes_decimalAdjust {ps : List Prefix} {i : Instr} {bytes : List Byte} {s : State} {six sixty al : Byte}
    (henc : encode i = bytes)
    (hexec : execUnder (Ctx.ofPrefixes ps) i s =
      .next ((s.decimalAdjust six sixty).advance (Ctx.ofPrefixes ps) i.len))
    (hal : loByte s.ax + ((if s.lowNibbleAdjusts then six else 0) + if s.highNibbleAdjusts then sixty else 0) = al) :
    ∃ fl n, Goes ps i bytes s { s.setReg .byte .r0 al with flags := fl, draws := n } ∧
      FlagsBecome ([(4, s.lowNibbleAdjusts), (0, s.highNibbleAdjusts)] ++ szp al) [11] s.flags fl := by
  rw [← adjust_adjust] at hal
  subst hal
  have hflags : FlagsBecome ([(4, s.lowNibbleAdjusts), (0, s.highNibbleAdjusts)] ++ szp _) [11] s.flags
      (s.decimalAdjust six sixty).flags :=
    ((((FlagsBecome.refl _).setFlag (f := .af)).setFlag (f := .cf)).setSZP _).undef
  exact ⟨_, s.draws + 1, .of_advance (t := s.decimalAdjust six sixty) henc hexec, hflags⟩

/-- AAM and AAD: AX and the flags of AL; OF, AF and CF are free (R268, R269). -/
theorem goes_setAdjusted {ps : List Prefix} {i : Instr} {bytes : List Byte} {s : State} {ah al : Byte}
    (henc : encode i = bytes)
    (hexec : execUnder (Ctx.ofPrefixes ps) i s = .next ((s.setAdjusted ah al).advance (Ctx.ofPrefixes ps) i.len)) :
    ∃ fl n, Goes ps i bytes s { s with ax := mkWord ah al, flags := fl, draws := n } ∧
      FlagsBecome (szp al) [11, 4, 0] s.flags fl := by
  have hflags : FlagsBecome (szp al) [11, 4, 0] s.flags (s.setAdjusted ah al).flags :=
    ((FlagsBecome.refl _).setSZP al).undef
  exact ⟨_, s.draws + 1, .of_advance (t := s.setAdjusted ah al) henc hexec, hflags⟩

end Sys2Proof.Claims

open Sys2Proof Sys2Proof.Machine Sys2Proof.Claims

/-- Settles O45: AAS adds the negatives of 6 and 1. -/
theorem aaaAasResults : Obligations.AaaAasResults := by
  intro ps s al ah adj
  refine ⟨goes_asciiAdjust rfl rfl, ?_⟩
  rw [BitVec.sub_eq_add_neg, BitVec.sub_eq_add_neg]
  exact goes_asciiAdjust rfl rfl

/-- Settles O46: DAS adds the negatives of 6 and 60h, which is to subtract their sum. -/
theorem daaDasResults : Obligations.DaaDasResults := by
  intro ps s al lo hi by'
  refine ⟨goes_decimalAdjust rfl rfl rfl, ?_⟩
  rw [BitVec.sub_eq_add_neg, ← adjust_neg]
  exact goes_decimalAdjust rfl rfl rfl

/-- Settles O47: a nonzero immediate divides AL into AH and AL; AAD leaves the sum modulo 100h in AL and 0 in AH. -/
theorem aamAadResults : Obligations.AamAadResults := by
  intro ps s imm al ah k
  have hdiv : al / k = (loByte s.ax / imm).toNat := (BitVec.toNat_udiv ..).symm
  have hmod : al % k = (loByte s.ax % imm).toNat := (BitVec.toNat_umod ..).symm
  have hsum : BitVec.ofNat 8 (al + ah * k) = loByte s.ax + hiByte s.ax * imm :=
    BitVec.eq_of_toNat_eq (by
      rw [BitVec.toNat_add, BitVec.toNat_mul, Nat.add_mod_mod, BitVec.toNat_ofNat]
      rfl)
  refine ⟨fun hk => ?_, fun hk => ?_, ?_⟩
  · have himm : imm ≠ 0 := fun h => hk (congrArg BitVec.toNat h)
    rw [hdiv, hmod, ← mkWord_eq_ofNat, BitVec.ofNat_toNat, BitVec.setWidth_eq]
    exact goes_setAdjusted rfl (by rw [execUnder_aam, execAam, if_neg himm]; rfl)
  · have himm : imm = 0 := BitVec.eq_of_toNat_eq hk
    rw [exec_withPrefixes, execUnder_aam, execAam, if_pos himm]
    rfl
  · have hax : BitVec.ofNat 16 ((al + ah * k) % 0x100) = mkWord 0 (BitVec.ofNat 8 (al + ah * k)) := by
      rw [mkWord_eq_ofNat]
      simp
    rw [hax, hsum]
    exact goes_setAdjusted rfl rfl

end

section
namespace Sys2Proof.Claims

open Sys2Proof Sys2Proof.Machine

/-! ## AND, OR, XOR and TEST (R300 to R304) -/

/-- CF and OF are 0, SF, ZF and PF those of the result, and AF is free once it is drawn (R300). -/
theorem logicFlagsAre_undef {n : Nat} (r : BitVec n) (free fl : Word) :
    LogicFlagsAre r fl (undefFlags free [.af] (logicFlags r fl)) :=
  ((((FlagsBecome.refl fl).setFlag (f := .cf)).setFlag (f := .of)).setSZP r).undef

/-- LogicFlags and the write of the result have the effect of a logic instruction (R301 to R303). -/
theorem combines_writeLoc (op : {n : Nat} → BitVec n → BitVec n → BitVec n) (w : Width) (dst : Loc)
    (b : BitVec w.bits) (s : State) :
    combines op w dst b s
      (((s.setFlags (logicFlags (op (s.readLoc w dst) b) s.flags)).undef [.af]).writeLoc w dst
        (op (s.readLoc w dst) b)) := by
  rw [combines, State.undef_writeLoc, State.setFlags_writeLoc]
  exact ⟨_, _, rfl, logicFlagsAre_undef ..⟩

/-- TEST is the flags of AND without its write (R304). -/
theorem tests_alu (w : Width) (dst : Loc) (b : BitVec w.bits) (s : State) : tests w dst b s (s.alu .test w dst b) :=
  ⟨_, _, rfl, logicFlagsAre_undef ..⟩

theorem andForms_of_and : andForms.Of .and := {}

theorem orForms_of_or : orForms.Of .or := {}

theorem xorForms_of_xor : xorForms.Of .xor := {}

end Sys2Proof.Claims

open Sys2Proof Sys2Proof.Machine Sys2Proof.Claims

/-- Settles O48: the three blocks are `LogicFlags` and a write on a location, the forms of TEST `LogicFlags` alone. -/
theorem logicResults : Obligations.LogicResults := by
  refine ⟨andForms_of_and.have_of_alu (combines_writeLoc fun a b => a &&& b),
    orForms_of_or.have_of_alu (combines_writeLoc fun a b => a ||| b),
    xorForms_of_xor.have_of_alu (combines_writeLoc fun a b => a ^^^ b), fun ps s => ?_⟩
  refine ⟨fun w reg rm => ⟨_, .of_advance_length (by cases w <;> rfl) rfl, tests_alu ..⟩,
    fun imm => ⟨_, .of_advance_length rfl rfl, tests_alu ..⟩, fun imm => ?_,
    fun rm imm => ⟨_, .of_advance_length rfl rfl, tests_alu ..⟩, fun rm imm => ?_⟩
  · rw [← wordBytes_eq_two]
    exact ⟨_, .of_advance_length rfl rfl, tests_alu ..⟩
  · rw [← wordBytes_eq_two]
    exact ⟨_, .of_advance_length rfl rfl, tests_alu ..⟩

end

section
namespace Sys2Proof.Machine

open Sys2Proof

/-! ## What a shift or rotate makes of the state (R306) -/

theorem State.shift_zero (s : State) (op : ShiftOp) (w : Width) (l : Loc) : s.shift op w l 0 = s := rfl

/-- A count of at least 1 writes the value and the flags of the loop and draws the undefined flags, if there are any. -/
theorem State.shift_of_ne_zero (s : State) (op : ShiftOp) (w : Width) (l : Loc) {c : Nat} {cf : Bool}
    {r : BitVec w.bits} (hc : c ≠ 0) (hloop : op.iterate c (getFlag s.flags .cf, s.readLoc w l) = (cf, r)) :
    ∃ free n, s.shift op w l c =
      { s.writeLoc w l r with
        flags := undefFlags free (op.undefined c) (op.flags c (s.readLoc w l) (cf, r) s.flags), draws := n } := by
  simp only [State.shift, if_neg hc, hloop, State.setFlags_writeLoc]
  split
  · next hnone =>
    rw [List.isEmpty_iff.1 hnone]
    exact ⟨0, (s.writeLoc w l r).draws, rfl⟩
  · exact ⟨_, _, rfl⟩

end Sys2Proof.Machine

namespace Sys2Proof.Claims

open Sys2Proof Sys2Proof.Machine

/-- The flags of a count of at least 1: CF, SF ZF PF of a shift, OF for a count of 1; AF of a shift and OF of a longer
count are drawn (R33, R307 to R313). -/
theorem FlagsBecome.shiftFlags {n : Nat} (op : ShiftOp) (c : Nat) (a : BitVec n) (x : Bool × BitVec n) {o : Bool}
    (free fl : Word) (ho : c = 1 → op.overflow a x = o) :
    FlagsBecome ((0, x.1) :: (if op.isShift then szp x.2 else []) ++ if c = 1 then [(11, o)] else [])
      ((if op.isShift then [4] else []) ++ if c = 1 then [] else [11]) fl
      (undefFlags free (op.undefined c) (op.flags c a x fl)) := by
  have hcf : FlagsBecome [(0, x.1)] [] fl (Machine.setFlag fl .cf x.1) := (refl fl).setFlag (f := .cf)
  have hszp : FlagsBecome ([(0, x.1)] ++ szp x.2) [] fl (Machine.setSZP x.2 _) := hcf.setSZP x.2
  rw [ShiftOp.flags, ShiftOp.undefined]
  by_cases hc : c = 1
  · rw [← ho hc]
    cases op.isShift <;> simp only [hc, if_true, if_false, Bool.false_eq_true]
    · exact (hcf.setFlag (f := .of)).undef
    · exact (hszp.setFlag (f := .of) (by simp [szp, Flag.bit])).undef
  · cases op.isShift <;> simp only [hc, if_true, if_false, Bool.false_eq_true]
    · exact hcf.undef
    · exact hszp.undef

/-- The rule says in closed form what the loop of `op` computes: CF and the value for a count of at least 1, OF for a
count of 1. -/
structure ShiftRule.Of (R : ShiftRule) (op : ShiftOp) : Prop where
  iterate : ∀ {n : Nat} (c : Nat) (cf : Bool) (a : BitVec n), 1 < n → c ≠ 0 →
    op.iterate c (cf, a) = (R.carry c cf a, R.value c cf a)
  overflow : ∀ {n : Nat} (cf : Bool) (a : BitVec n), 1 < n → op.overflow a (op.step (cf, a)) = R.overflow cf a

/-- A member of the family follows the rule of its loop; its meaning and its encoding hold by computation, which is the
default. -/
theorem ShiftRule.Of.shifts {R : ShiftRule} {op : ShiftOp} {ctor : Count → Width → RM → Instr} {sub : RegNum}
    (h : R.Of op)
    (hexec : ∀ c v w rm s, execUnder c (ctor v w rm) s = .next (shiftRm op v w rm c s) := by intros; rfl)
    (henc : ∀ v w rm, encode (ctor v w rm) = shiftOpcode v w :: encodeModRM sub rm := by
      rintro (_ | _) (_ | _) _ <;> rfl) :
    Shifts ctor sub op.isShift R := by
  intro ps s v w rm c l a cf r
  have hmeaning : execUnder (Ctx.ofPrefixes ps) (ctor v w rm) s =
      .next ((s.shift op w l c).advance (Ctx.ofPrefixes ps) (2 + rm.dispLen)) := by
    rw [hexec, shiftRm, shiftCount_eq]
    rfl
  have hgoes : Goes ps (ctor v w rm) (shiftOpcode v w :: encodeModRM sub rm) s (s.shift op w l c) :=
    .of_advance_length (henc v w rm) hmeaning
  refine ⟨fun hc => ?_, fun hc => ?_⟩
  · rwa [hc, State.shift_zero] at hgoes
  · have hw : 1 < w.bits := by cases w <;> decide
    have hloop : op.iterate c (cf, a) = (R.carry c cf a, r) := h.iterate c cf a hw hc
    have hof : c = 1 → op.overflow a (R.carry c cf a, r) = R.overflow cf a := by
      intro h1
      rw [← hloop, h1]
      exact h.overflow cf a hw
    obtain ⟨free, n, hshift⟩ := s.shift_of_ne_zero op w l hc hloop
    exact ⟨_, n, hshift ▸ hgoes, .shiftFlags op c a _ free s.flags hof⟩

/-! ## OF of a one-bit step (R307, R310 to R313) -/

theorem msb_shiftLeft_one {n : Nat} (a : BitVec n) (hn : 1 < n) : (a <<< 1).msb = a.getLsbD (n - 2) := by
  rw [BitVec.msb_shiftLeft, BitVec.getMsbD, decide_eq_true hn, Bool.true_and, Nat.sub_sub]

theorem msb_shiftLeft_one_or_lowBit {n : Nat} (a : BitVec n) (b : Bool) (hn : 1 < n) :
    ((a <<< 1) ||| lowBit n b).msb = a.getLsbD (n - 2) := by
  have hlow : (lowBit n b).msb = false := by
    have htop : n - 1 ≠ 0 := by omega
    rw [BitVec.msb_eq_getLsbD_last, getLsbD_lowBit, decide_eq_false htop, Bool.and_false]
  rw [BitVec.msb_or, msb_shiftLeft_one a hn, hlow, Bool.or_false]

/-- OF of a step to the left that carries the old top bit out: the XOR of the old top two bits. -/
theorem msb_xor_carry {n : Nat} {a v : BitVec n} (hv : v.msb = a.getLsbD (n - 2)) :
    Bool.xor v.msb a.msb = Bool.xor (a.getLsbD (n - 1)) (a.getLsbD (n - 2)) := by
  rw [hv, BitVec.msb_eq_getLsbD_last, Bool.xor_comm]

theorem msb_ushiftRight_one_or_topBit {n : Nat} (a : BitVec n) (b : Bool) (hn : 1 < n) :
    ((a >>> 1) ||| topBit n b).msb = b := by
  have htop : n - 1 < n := by omega
  have hout : n ≤ 1 + (n - 1) := by omega
  rw [BitVec.msb_eq_getLsbD_last, BitVec.getLsbD_or, BitVec.getLsbD_ushiftRight, getLsbD_topBit,
    BitVec.getLsbD_of_ge a _ hout, decide_eq_true htop, decide_eq_true rfl, Bool.and_true, Bool.and_true,
    Bool.false_or]

/-- The bit below the top is the old top bit. -/
theorem getMsbD_ushiftRight_one_or_topBit {n : Nat} (a : BitVec n) (b : Bool) (hn : 1 < n) :
    ((a >>> 1) ||| topBit n b).getMsbD 1 = a.getLsbD (n - 1) := by
  have hbelow : n - 1 - 1 ≠ n - 1 := by omega
  have hold : 1 + (n - 1 - 1) = n - 1 := by omega
  rw [BitVec.getMsbD, BitVec.getLsbD_or, BitVec.getLsbD_ushiftRight, getLsbD_topBit, decide_eq_true hn,
    decide_eq_false hbelow, hold, Bool.and_false, Bool.or_false, Bool.true_and]

/-- OF of a rotation to the right: the XOR of the bit that enters and the old top bit. -/
theorem msb_xor_below {n : Nat} (a : BitVec n) (b : Bool) (hn : 1 < n) :
    Bool.xor ((a >>> 1) ||| topBit n b).msb (((a >>> 1) ||| topBit n b).getMsbD 1) =
      Bool.xor b (a.getLsbD (n - 1)) := by
  rw [msb_ushiftRight_one_or_topBit a b hn, getMsbD_ushiftRight_one_or_topBit a b hn]

/-! ## The rules of the shifts (R307 to R309) -/

theorem shlRule_of_shl : shlRule.Of .shl where
  iterate c _ _ _ hc := by rw [iterate_shl, if_neg hc]; rfl
  overflow _ a hn := msb_xor_carry (msb_shiftLeft_one a hn)

theorem shrRule_of_shr : shrRule.Of .shr where
  iterate c _ _ _ hc := by rw [iterate_shr, if_neg hc]; rfl
  overflow _ a _ := BitVec.msb_eq_getLsbD_last a

theorem sarRule_of_sar : sarRule.Of .sar where
  iterate c _ _ _ hc := by rw [iterate_sar, if_neg hc]; rfl
  overflow _ _ _ := rfl

/-! ## The rules of the rotates (R310 to R313) -/

theorem rolRule_of_rol : rolRule.Of .rol where
  iterate c _ _ hn hc := by rw [iterate_rol (by omega), if_neg hc]; rfl
  overflow _ a hn := msb_xor_carry (msb_shiftLeft_one_or_lowBit a _ hn)

theorem rorRule_of_ror : rorRule.Of .ror where
  iterate c _ _ hn hc := by rw [iterate_ror (by omega), if_neg hc, BitVec.msb_eq_getLsbD_last]; rfl
  overflow _ a hn := msb_xor_below a _ hn

/-- A carry and a value are the top bit and the rest of the N + 1 bits they form. -/
theorem eq_of_cons_eq {n : Nat} {x : Bool × BitVec n} {y : BitVec (n + 1)} (h : BitVec.cons x.1 x.2 = y) :
    x = (y.getLsbD n, y.setWidth n) := by
  rw [← h, BitVec.getLsbD_cons, if_pos rfl, BitVec.setWidth_cons]

theorem rclRule_of_rcl : rclRule.Of .rcl where
  iterate c cf a hn _ := eq_of_cons_eq (iterate_rcl (by omega) c (cf, a))
  overflow _ a hn := msb_xor_carry (msb_shiftLeft_one_or_lowBit a _ hn)

theorem rcrRule_of_rcr : rcrRule.Of .rcr where
  iterate c cf a hn _ := eq_of_cons_eq (iterate_rcr (by omega) c (cf, a))
  overflow _ a hn := msb_xor_below a _ hn

end Sys2Proof.Claims

open Sys2Proof Sys2Proof.Machine Sys2Proof.Claims

/-- Settles O49: each loop of one-bit steps is its closed form (`iterate_shl`, `iterate_shr`, `iterate_sar`). -/
theorem shiftResults : Obligations.ShiftResults :=
  ⟨shlRule_of_shl.shifts, shrRule_of_shr.shifts, sarRule_of_sar.shifts⟩

/-- Settles O50: ROL and ROR rotate the operand, RCL and RCR the N + 1 bits it forms with the carry. -/
theorem rotateResults : Obligations.RotateResults :=
  ⟨rolRule_of_rol.shifts, rorRule_of_ror.shifts, rclRule_of_rcl.shifts, rcrRule_of_rcr.shifts⟩

end

section
namespace Sys2Proof.Machine

open Sys2Proof Sys2Proof.Claims

/-! ## One repetition of a string instruction (R341 to R347) -/

theorem source_ofPrefixes (ps : List Prefix) (w : Width) (s : State) :
    (Ctx.ofPrefixes ps).source w s = sourceElement ps w s := by
  rw [Ctx.source, segment_ofPrefixes]
  rfl

/-- The distance of the elements depends on DF alone (R341). -/
theorem stringDelta_eq_delta_of_df {s t : State} (h : t.flags.getLsbD 10 = s.flags.getLsbD 10) (w : Width) :
    t.stringDelta w = delta w s := by
  rw [stringDelta_eq_delta]
  simp only [delta, h]

/-- A comparison keeps DF, and so the direction (R33). -/
theorem stringDelta_setFlags_subFlags {n : Nat} (a b : BitVec n) (c : Bool) (s : State) (w : Width) :
    (s.setFlags (subFlags a b c s.flags)).stringDelta w = delta w s :=
  stringDelta_eq_delta_of_df (by simp [-BitVec.getLsbD_eq_getElem, getLsbD_subFlags]) w

theorem oneRepetition_stringOnce (op : StringOp) (ps : List Prefix) (w : Width) (s : State) :
    OneRepetition op ps w s (s.stringOnce op w (Ctx.ofPrefixes ps)) := by
  cases op with
  | movs =>
    rw [State.stringOnce, source_ofPrefixes, OneRepetition, ← stringDelta_eq_delta]
    rfl
  | lods =>
    have hdelta : (s.setAcc w (sourceElement ps w s)).stringDelta w = delta w s :=
      stringDelta_eq_delta_of_df (by rw [State.setAcc_flags]) w
    rw [State.stringOnce, source_ofPrefixes, State.stepSi, hdelta, State.setAcc_si]
    rfl
  | cmps =>
    rw [State.stringOnce, source_ofPrefixes, State.stepDi, State.stepSi]
    refine ⟨_, ?_, .subFlags (sourceElement ps w s) (destElement w s) false s.flags⟩
    rw [← stringDelta_setFlags_subFlags]
    rfl
  | scas =>
    rw [State.stringOnce, State.stepDi, stringDelta_setFlags_subFlags]
    exact ⟨_, rfl, .subFlags (s.reg w .r0) (destElement w s) false s.flags⟩
  | stos =>
    rw [State.stringOnce, OneRepetition, ← stringDelta_eq_delta]
    rfl

/-! ## The loop of a repeated string instruction (R348) -/

theorem compares_iff (op : StringOp) : op.compares = true ↔ op = .cmps ∨ op = .scas := by
  cases op <;> simp [StringOp.compares]

theorem stops_iff (r : Repeat) (t : State) : r.stops t = true ↔ t.flags.getLsbD 6 = !r.isRepe := by
  cases r <;> simp [Repeat.stops, Repeat.isRepe, getFlag, Flag.bit]

theorem breaks_iff (op : StringOp) (r : Repeat) (t : State) :
    Breaks op r.isRepe t ↔ (op.compares && r.stops t) = true := by
  rw [Breaks, Bool.and_eq_true, compares_iff, stops_iff]

/-- The loop of the model with CX = `n` to go passes through the states of a run of the loop of R348 and ends in its
last. -/
theorem exists_loopRuns_stringLoop (op : StringOp) (ps : List Prefix) (w : Width) (r : Repeat) {n : Nat} {s : State}
    (hn : s.cx.toNat = n) :
    ∃ l, LoopRuns op ps w r.isRepe s l ∧ l.length ≤ n ∧
      State.stringLoop op w (Ctx.ofPrefixes ps) r n s = l.getLastD s := by
  induction n generalizing s with
  | zero => exact ⟨[], BitVec.eq_of_toNat_eq hn, le_rfl, rfl⟩
  | succ n ih =>
    have hcx : s.cx ≠ 0 := fun h0 => by simp [h0] at hn
    have honce := oneRepetition_stringOnce op ps w s
    rw [State.stringLoop]
    split
    · next hb =>
      exact ⟨[_], ⟨hcx, ⟨_, honce, rfl⟩, .inl ⟨(breaks_iff ..).2 hb, rfl⟩⟩, Nat.le_add_left 1 n, rfl⟩
    · next hb =>
      have hdec : (s.stringOnce op w (Ctx.ofPrefixes ps)).decCx.cx.toNat = n := by
        rw [State.decCx_cx, State.stringOnce_cx]
        bv_omega
      obtain ⟨l, hruns, hlen, hlast⟩ := ih hdec
      refine ⟨(s.stringOnce op w (Ctx.ofPrefixes ps)).decCx :: l, ⟨hcx, ⟨_, honce, rfl⟩, .inr ⟨?_, hruns⟩⟩,
        Nat.succ_le_succ hlen, ?_⟩
      · exact mt (breaks_iff ..).1 hb
      · rw [hlast, List.getLastD_cons]

/-! ## The string instructions -/

theorem stringExec_of_rep_none {c : Ctx} (h : c.rep = none) (op : StringOp) (w : Width) (s : State) :
    stringExec op w c s = (s.stringOnce op w c).advance c 1 := by
  rw [stringExec, h]

theorem stringExec_of_rep_some {c : Ctx} {r : Repeat} (h : c.rep = some r) (op : StringOp) (w : Width) (s : State) :
    stringExec op w c s = (State.stringLoop op w c r s.cx.toNat s).advance c 1 := by
  rw [stringExec, h]

/-- What the repetitions make of the state is what the instruction goes to. -/
theorem goes_stringInstr {op : StringOp} {ps : List Prefix} {w : Width} {s t : State}
    (h : stringExec op w (Ctx.ofPrefixes ps) s = t.advance (Ctx.ofPrefixes ps) 1) (hip : t.ip = s.ip) :
    Goes ps (stringInstr op w).1 [(stringInstr op w).2] s t := by
  have henc : encode (stringInstr op w).1 = [(stringInstr op w).2] := by cases op <;> cases w <;> rfl
  have hexec : execUnder (Ctx.ofPrefixes ps) (stringInstr op w).1 s =
      .next (stringExec op w (Ctx.ofPrefixes ps) s) := by
    cases op <;> rfl
  exact .of_advance_length henc (hexec.trans (congrArg _ h)) hip rfl

end Sys2Proof.Machine

open Sys2Proof Sys2Proof.Machine Sys2Proof.Claims

/-- Settles O51: no repetition is in force (`rep_ofPrefixes`), and the model's single repetition is that of the rules
(`oneRepetition_stringOnce`). -/
theorem stringSingleResults : Obligations.StringSingleResults := by
  intro ps s op w hps
  have hrep : (Ctx.ofPrefixes ps).rep = none := by rwa [← rep_ofPrefixes, Option.map_eq_none_iff] at hps
  exact ⟨_, goes_stringInstr (stringExec_of_rep_none hrep op w s) (State.stringOnce_ip ..),
    oneRepetition_stringOnce op ps w s⟩

/-- Settles O52: from CX on the model's loop ends where the run of `exists_loopRuns_stringLoop` does. -/
theorem stringRepeatResults : Obligations.StringRepeatResults := by
  intro ps s op w repe hps
  rw [← rep_ofPrefixes, Option.map_eq_some_iff] at hps
  obtain ⟨r, hrep, rfl⟩ := hps
  obtain ⟨l, hruns, hlen, hlast⟩ := exists_loopRuns_stringLoop op ps w r (s := s) rfl
  refine ⟨l, hruns, hlen, ?_⟩
  rw [← hlast]
  exact goes_stringInstr (stringExec_of_rep_some hrep op w s) (State.stringLoop_ip ..)

end

section
namespace Sys2Proof.Machine

/-! ## The conditions of the jumps (R372) -/

/-- The predicates of the conditional jumps, as the rules write them (R372). -/
def Cond.Predicate (c : Cond) (fl : Word) : Prop :=
  let cf := fl.getLsbD 0
  let pf := fl.getLsbD 2
  let zf := fl.getLsbD 6
  let sf := fl.getLsbD 7
  let off := fl.getLsbD 11
  match c with
  | .o => off = true
  | .no => off = false
  | .b => cf = true
  | .nb => cf = false
  | .z => zf = true
  | .nz => zf = false
  | .be => cf = true ∨ zf = true
  | .nbe => cf = false ∧ zf = false
  | .s => sf = true
  | .ns => sf = false
  | .p => pf = true
  | .np => pf = false
  | .l => sf ≠ off
  | .nl => sf = off
  | .le => zf = true ∨ sf ≠ off
  | .nle => zf = false ∧ sf = off

theorem Cond.holds_iff (c : Cond) (fl : Word) : c.holds fl = true ↔ c.Predicate fl := by
  cases c <;> simp [-BitVec.getLsbD_eq_getElem, Cond.holds, Cond.Predicate, getFlag, Flag.bit]

end Sys2Proof.Machine

namespace Sys2Proof.Claims

open Sys2Proof Sys2Proof.Machine

/-! ## Where a control transfer goes -/

/-- Behind its prefixes an instruction runs under what they leave (R102). -/
theorem Jumps.of_execUnder {ps : List Prefix} {i : Instr} {bytes : List Byte} {s t : State} (henc : encode i = bytes)
    (hexec : execUnder (Ctx.ofPrefixes ps) i s = .next t) : Jumps ps i bytes s t :=
  ⟨henc, (exec_withPrefixes ps i s).trans hexec⟩

/-- The two names of `next` (R27, R121). -/
theorem next_ofPrefixes {i : Instr} {bytes : List Byte} (henc : encode i = bytes) (ps : List Prefix) (s : State) :
    (Ctx.ofPrefixes ps).next i.len s = after ps bytes s := by
  rw [Ctx.next, Ctx.ofPrefixes_count, after, ← henc, Laws.Length.all]

/-- A transfer whose result is `t` of `next` by the meanings is `t` of `next` by the claims. -/
theorem Jumps.of_next {ps : List Prefix} {i : Instr} {bytes : List Byte} {s : State} (t : Word → State)
    (henc : encode i = bytes)
    (hexec : execUnder (Ctx.ofPrefixes ps) i s = .next (t ((Ctx.ofPrefixes ps).next i.len s))) :
    Jumps ps i bytes s (t (after ps bytes s)) :=
  .of_execUnder henc (next_ofPrefixes henc ps s ▸ hexec)

/-- An instruction that ends in a branch from `u` goes to one of two states, by the predicate it tests (R371). -/
theorem jumps_branch {ps : List Prefix} {i : Instr} {op rel : Byte} {s : State} {taken : Bool} {p : Prop} (u : State)
    (hp : taken = true ↔ p) (henc : encode i = [op, rel])
    (hexec : execUnder (Ctx.ofPrefixes ps) i s = .next (u.branch (Ctx.ofPrefixes ps) taken rel))
    (hip : u.ip = s.ip := by rfl) :
    (p → Jumps ps i [op, rel] s { u with ip := after ps [op, rel] s + rel.signExtend 16 }) ∧
      (¬ p → Jumps ps i [op, rel] s { u with ip := after ps [op, rel] s }) := by
  have hnext : (Ctx.ofPrefixes ps).next 2 u = after ps [op, rel] s := by
    rw [Ctx.next, Ctx.ofPrefixes_count, after, hip]
    rfl
  rw [State.branch, hnext] at hexec
  refine ⟨fun h => .of_execUnder henc ?_, fun h => .of_execUnder henc ?_⟩
  · rw [hexec, if_pos (hp.2 h)]
    rfl
  · rw [hexec, if_neg (mt hp.1 h)]
    rfl

/-- A conditional jump branches by its predicate and changes IP alone (R371, R372). -/
theorem jumps_conditional {ps : List Prefix} {i : Instr} {op rel : Byte} {s : State} (c : Cond)
    (henc : encode i = [op, rel])
    (hexec : execUnder (Ctx.ofPrefixes ps) i s = .next (s.branch (Ctx.ofPrefixes ps) (c.holds s.flags) rel)) :
    (c.Predicate s.flags → Jumps ps i [op, rel] s { s with ip := after ps [op, rel] s + rel.signExtend 16 }) ∧
      (¬ c.Predicate s.flags → Jumps ps i [op, rel] s { s with ip := after ps [op, rel] s }) :=
  jumps_branch s (c.holds_iff s.flags) henc hexec

end Sys2Proof.Claims

namespace Sys2Proof.Machine

open Sys2Proof Sys2Proof.Claims

/-! ## The slots of the stack (R209) -/

/-- A read sees nothing of a write that shares no byte with it (R64). -/
theorem Memory.read_write_of_disjoint (m : Memory) {w v : Width} {a b : PAddr} (x : BitVec w.bits)
    (h : ∀ p ∈ accessBytes v b, p ∉ accessBytes w a) : (m.write w a x).read v b = m.read v b :=
  Memory.read_congr fun p hp => Memory.byteAt_write_other m w a p x (h p hp)

/-- Words at offsets two or more apart in either direction modulo 2^16 share no byte, wherever the segment lies and
also where the offset or the address wraps (R62, R64). -/
theorem accessBytes_word_disjoint {seg a b : Word} (hlo : 2 ≤ (b - a).toNat) (hhi : (b - a).toNat ≤ 0xFFFE) :
    ∀ p ∈ accessBytes .word (phys seg b), p ∉ accessBytes .word (phys seg a) := by
  have ha := phys_toNat seg a
  have hb := phys_toNat seg b
  simp only [accessBytes, List.mem_cons, List.not_mem_nil, or_false]
  generalize phys seg a = x at ha ⊢
  generalize phys seg b = y at hb ⊢
  bv_omega

/-- The word pushed is on top (R209). -/
theorem stackWord_pushed_zero (s : State) (v : Word) : stackWord (pushed s v) 0 = v :=
  (stackWord_zero _).trans (s.stackTop_push16 v)

/-- Under the word pushed lies the stack as it was, up to the offsets at which 2^16 wraps into the new slot (R209). -/
theorem stackWord_pushed (s : State) (v : Word) {k : Word} (hk : k.toNat ≤ 0xFFFC) :
    stackWord (pushed s v) (k + 2) = stackWord s k := by
  have hsp : s.sp - 2 + (k + 2) = s.sp + k := by bv_omega
  have hdiff : s.sp + k - (s.sp - 2) = k + 2 := by bv_omega
  have happart : ∀ p ∈ accessBytes .word (phys s.ss (s.sp + k)), p ∉ accessBytes .word (phys s.ss (s.sp - 2)) :=
    accessBytes_word_disjoint (by rw [hdiff]; bv_omega) (by rw [hdiff]; bv_omega)
  rw [stackWord, pushed, hsp]
  exact Memory.read_write_of_disjoint (w := .word) s.mem v happart

/-! ## The software interrupt and its return (R387, R388) -/

/-- The vector table holds four bytes for each type, from physical 0 on (R387). -/
theorem vectorAddr_eq (t : Byte) : vectorAddr t = BitVec.ofNat 20 (4 * t.toNat) := by
  rw [vectorAddr]
  bv_omega

theorem vectorAddr_add_two (t : Byte) : vectorAddr t + 2 = BitVec.ofNat 20 (4 * t.toNat + 2) := by
  rw [vectorAddr_eq, BitVec.ofNat_add]
  rfl

theorem setFlag_intf_tf_false (fl : Word) : setFlag (setFlag fl .intf false) .tf false = fl &&& ~~~0x0300 := by
  have hmasks : ~~~Flag.mask .intf &&& ~~~Flag.mask .tf = ~~~(0x0300 : Word) := by decide
  rw [← hmasks, ← BitVec.and_assoc]
  rfl

/-- The three pushes of an interrupt: FLAGS as stored, CS and the return offset (R387). -/
def interruptPushes (s : State) (ret : Word) : State := pushed (pushed (pushed s s.flags) s.cs) ret

/-- An interrupt as its pushes, with IF and TF cleared and CS:IP from the vector (R387). -/
theorem State.interrupt_eq (s : State) (t : Byte) (ret : Word) :
    s.interrupt t ret =
      { interruptPushes s ret with
        flags := s.flags &&& ~~~0x0300
        cs := (interruptPushes s ret).mem.read .word (BitVec.ofNat 20 (4 * t.toNat + 2))
        ip := (interruptPushes s ret).mem.read .word (BitVec.ofNat 20 (4 * t.toNat)) } := by
  rw [← vectorAddr_eq, ← vectorAddr_add_two, ← setFlag_intf_tf_false]
  rfl

/-- The return takes three words off the stack (R388). -/
theorem State.interruptReturn_eq_stackWord (s : State) :
    s.interruptReturn =
      { s with
        sp := s.sp + 6, ip := stackWord s 0, cs := stackWord s 2
        flags := (s.flags &&& ~~~0x0FD5) ||| (stackWord s 4 &&& 0x0FD5) } := by
  have hsp : s.sp + 6 = s.sp + 2 + 2 + 2 := by bv_omega
  have hword : stackWord s 4 = s.pop16.pop16.stackTop := by
    have hsp4 : s.sp + 4 = s.sp + 2 + 2 := by bv_omega
    rw [stackWord, hsp4]
    rfl
  rw [stackWord_zero, hsp, hword]
  rfl

/-- The defined flags an interrupt clears are among those its return restores (R388). -/
theorem clearedFlags_restored (fl : Word) : (fl &&& ~~~0x0300 &&& ~~~0x0FD5) ||| (fl &&& 0x0FD5) = fl := by
  have hcleared : ~~~(0x0300 : Word) &&& ~~~0x0FD5 = ~~~0x0FD5 := by decide
  have hall : ~~~(0x0FD5 : Word) ||| 0x0FD5 = BitVec.allOnes 16 := by decide
  rw [BitVec.and_assoc, hcleared, ← BitVec.and_or_distrib_left, hall, BitVec.and_allOnes]

/-- The return finds the three words of the interrupt, for the slots share no byte (R387, R388). -/
theorem State.interruptReturn_interrupt (s : State) (t : Byte) (ret : Word) :
    (s.interrupt t ret).interruptReturn = { s with ip := ret, mem := (s.interrupt t ret).mem } := by
  have hip : stackWord (interruptPushes s ret) 0 = ret := stackWord_pushed_zero _ _
  have hcs : stackWord (interruptPushes s ret) 2 = s.cs :=
    (stackWord_pushed _ _ (k := 0) (by decide)).trans (stackWord_pushed_zero _ _)
  have hflags : stackWord (interruptPushes s ret) 4 = s.flags :=
    (stackWord_pushed _ _ (k := 2) (by decide)).trans
      ((stackWord_pushed _ _ (k := 0) (by decide)).trans (stackWord_pushed_zero _ _))
  have hsp : s.sp - 2 - 2 - 2 + 6 = s.sp := by bv_omega
  have hword (k : Word) : stackWord (s.interrupt t ret) k = stackWord (interruptPushes s ret) k := by
    rw [State.interrupt_eq]
    rfl
  rw [State.interruptReturn_eq_stackWord, hword, hword, hword, hip, hcs, hflags, State.interrupt_eq]
  dsimp only [interruptPushes, pushed]
  rw [hsp, clearedFlags_restored]

end Sys2Proof.Machine

open Sys2Proof Sys2Proof.Machine Sys2Proof.Claims

/-- Settles O53: `next` is pushed and, for a relative call, the base of the target; a far pointer in memory is
read at the place of its operand, before the pushes (`farPointer?_of_place`). -/
theorem callResults : Obligations.CallResults := by
  intro ps s
  refine ⟨fun rel => .of_next (fun n => { pushed s n with ip := n + rel }) ?_ rfl,
    fun rm => .of_next (fun n => { pushed s n with ip := s.readLoc .word (place ps rm s) }) rfl rfl,
    fun off seg => .of_next (fun n => { pushed (pushed s s.cs) n with cs := seg, ip := off }) ?_ rfl,
    fun rm sg off h => .of_next (fun n => { pushed (pushed s s.cs) n with
      cs := s.mem.read .word (phys sg (off + 2)), ip := s.mem.read .word (phys sg off) }) rfl ?_⟩
  · rw [← wordBytes_eq_two]
    rfl
  · rw [← wordBytes_eq_two, ← wordBytes_eq_two]
    rfl
  · rw [execUnder_callFarRm, execCallFarRm, farPointer?_of_place h]
    rfl

/-- Settles O54: a far pointer in memory is read at the place of the operand (`farPointer?_of_place`). -/
theorem jmpResults : Obligations.JmpResults := by
  intro ps s
  refine ⟨fun rel => .of_next (fun n => { s with ip := n + rel.signExtend 16 }) rfl rfl,
    fun rel => .of_next (fun n => { s with ip := n + rel }) ?_ rfl, fun rm => .of_execUnder rfl rfl,
    fun off seg => .of_execUnder ?_ rfl, fun rm sg off h => .of_execUnder rfl ?_⟩
  · rw [← wordBytes_eq_two]
    rfl
  · rw [← wordBytes_eq_two, ← wordBytes_eq_two]
    rfl
  · rw [execUnder_jmpFarRm, execJmpFarRm, farPointer?_of_place h]
    rfl

/-- Settles O55: each return is its pops as written, SP being moved by all of them at once. -/
theorem retResults : Obligations.RetResults := by
  intro ps s
  have hsp : s.sp + 4 = s.sp + 2 + 2 := by bv_omega
  rw [stackWord_zero, hsp]
  refine ⟨.of_execUnder rfl rfl, fun imm => ?_, ?_, fun imm => ?_⟩
  · rw [← wordBytes_eq_two]
    exact .of_execUnder rfl rfl
  · have hzero : s.sp + 2 + 2 = s.sp + 2 + 2 + 0 := (BitVec.add_zero _).symm
    rw [hzero]
    exact .of_execUnder rfl rfl
  · rw [← wordBytes_eq_two]
    exact .of_execUnder rfl rfl

/-- Settles O56: each tests its predicate (`Cond.holds_iff`) and branches. -/
theorem conditionalJumpResults : Obligations.ConditionalJumpResults := by
  intro ps s rel
  exact ⟨jumps_conditional .o rfl rfl, jumps_conditional .no rfl rfl, jumps_conditional .b rfl rfl,
    jumps_conditional .nb rfl rfl, jumps_conditional .z rfl rfl, jumps_conditional .nz rfl rfl,
    jumps_conditional .be rfl rfl, jumps_conditional .nbe rfl rfl, jumps_conditional .s rfl rfl,
    jumps_conditional .ns rfl rfl, jumps_conditional .p rfl rfl, jumps_conditional .np rfl rfl,
    jumps_conditional .l rfl rfl, jumps_conditional .nl rfl rfl, jumps_conditional .le rfl rfl,
    jumps_conditional .nle rfl rfl⟩

/-- Settles O57: CX less 1 is not 0 exactly when CX is not 1; the branch follows the count. -/
theorem loopResults : Obligations.LoopResults := by
  intro ps s rel
  have hcx : s.cx - 1 ≠ 0 ↔ s.cx ≠ 1 := by bv_omega
  refine ⟨jumps_branch s.loopCount (bne_iff_ne.trans hcx) rfl rfl, jumps_branch s.loopCount ?_ rfl rfl,
    jumps_branch s.loopCount ?_ rfl rfl, jumps_branch s beq_iff_eq rfl rfl⟩
  · rw [Bool.and_eq_true, bne_iff_ne, hcx]
    rfl
  · rw [Bool.and_eq_true, bne_iff_ne, hcx, Bool.not_eq_true']
    rfl

/-- Settles O58: each type has the entry of `State.interrupt_eq`; OF alone decides whether INTO is taken. -/
theorem interruptResults : Obligations.InterruptResults := by
  intro ps s entry
  have hentry (t : Byte) (bytes : List Byte) : s.interrupt t (after ps bytes s) = entry t.toNat bytes := by
    rw [State.interrupt_eq]
    rfl
  refine ⟨fun imm => ?_, ?_, fun hof => ?_, fun hof => ?_⟩
  · rw [← hentry imm]
    exact .of_next (s.interrupt imm) rfl rfl
  · exact hentry 3 [0xCC] ▸ .of_next (s.interrupt 3) rfl rfl
  · exact hentry 4 [0xCE] ▸ .of_next (s.interrupt 4) rfl (congrArg _ (if_pos hof))
  · exact .of_advance rfl (congrArg _ (if_neg (Bool.eq_false_iff.1 hof)))

/-- Settles O59: the pops by `State.interruptReturn_eq_stackWord`, the undoing by `State.interruptReturn_interrupt`. -/
theorem iretResults : Obligations.IretResults := by
  refine ⟨fun ps s => ?_, fun s t imm h => ?_⟩
  · rw [← State.interruptReturn_eq_stackWord]
    exact .of_execUnder rfl rfl
  · have ht : s.interrupt imm (s.ip + 2) = t := Host.Outcome.next.inj h
    rw [← ht, ← State.interruptReturn_interrupt]
    rfl

end

section
namespace Sys2Proof.Machine

open Sys2Proof

/-- Writing a flag's complement toggles its one bit (R31, R412). -/
theorem setFlag_not_getFlag (fl : Word) (f : Flag) : setFlag fl f (!getFlag fl f) = fl ^^^ f.mask := by
  refine BitVec.eq_of_getLsbD_eq fun k hk => ?_
  rw [getLsbD_setFlag, BitVec.getLsbD_xor, Flag.mask, BitVec.getLsbD_twoPow]
  by_cases h : k = f.bit
  · subst h
    simp [getFlag, hk]
  · simp [h, Ne.symm h]

end Sys2Proof.Machine

open Sys2Proof Sys2Proof.Machine Sys2Proof.Claims

/-- Settles O60: each flag is set or cleared with its mask of R30 and CF is toggled with it (`setFlag_not_getFlag`);
HLT, WAIT, NOP and ESC are their rules as written. -/
theorem processorControlResults : Obligations.ProcessorControlResults := by
  intro ps s
  refine ⟨.of_advance rfl rfl, .of_advance rfl rfl, ?_, .of_advance rfl rfl, .of_advance rfl rfl, .of_advance rfl rfl,
    .of_advance rfl rfl, .of_advance rfl rfl, .of_advance rfl rfl, .of_advance rfl rfl, fun hi lo rm => ?_⟩
  · have htoggle : setFlag s.flags .cf (!getFlag s.flags .cf) = s.flags ^^^ 0x0001 := setFlag_not_getFlag s.flags .cf
    exact htoggle ▸ .of_advance rfl rfl
  · exact .of_advance (by cases hi <;> rfl) rfl

end

section
namespace Sys2Proof.Machine

open Sys2Proof Sys2Proof.Claims

/-! ## What a faulting step has fetched (R503, R504) -/

theorem Memory.bytes_holds (m : Memory) (n : Nat) (a : PAddr) : m.Holds a (m.bytes n a) := fun k b hk => by
  have hlt : k < n := by simpa using (List.getElem?_eq_some_iff.1 hk).1
  exact Option.some.inj ((m.bytes_getElem? n a k hlt).symm.trans hk)

/-- A fetch reads the bytes of memory in order, prefixes or not (R78). -/
theorem Memory.fetch_holds (m : Memory) (n : Nat) (a : PAddr) : m.Holds a (m.fetch n a) := by
  induction n generalizing a with
  | zero => exact fun k b hk => nomatch hk
  | succ n ih =>
    rw [Memory.fetch]
    split
    · intro k b hk
      cases k with
      | zero => simpa using hk
      | succ k => exact paddr_add_succ a k ▸ ih (a + 1) k b hk
    · exact m.bytes_holds maxBodyLen a

namespace Memory.Holds

variable {ps : List Prefix} {bs : List Byte} {b : Byte}

theorem prefixesAt {s : State} (h : s.mem.Holds (phys s.cs s.ip) (ps.map Prefix.byte ++ bs)) : PrefixesAt s ps :=
  fun k p hk => h.left k p.byte (by rw [List.getElem?_map, hk]; rfl)

/-- The bytes behind a run of prefixes. -/
theorem byte_behind {m : Memory} {a : PAddr} {k : Nat} (h : m.Holds a (ps.map Prefix.byte ++ bs))
    (hb : bs[k]? = some b) : b = m.byteAt (a + BitVec.ofNat 20 (ps.length + k)) :=
  (h _ b (by rw [List.getElem?_append_right (by simp), List.length_map, Nat.add_sub_cancel_left, hb])).symm

end Memory.Holds

/-! ### The ModRM byte of a refused combination -/

/-- What a row of the dispatch table with a ModRM byte can answer: a refusal names the first of the bytes `bs` behind
the opcode. -/
inductive ReadsModRM (bs : List Byte) : DecodeResult → Prop
  | instr (x : Instr × List Byte) : ReadsModRM bs (.ok x)
  | truncated : ReadsModRM bs (.error .truncated)
  | refused {m : Byte} (op : Byte) (first : bs.head? = some m) : ReadsModRM bs (.error (.unresolvableModRM op m))

namespace ReadsModRM

variable {op : Byte} {bs l : List Byte} {x : ModRM}

theorem byte {k : Byte → List Byte → DecodeResult} (h : ∀ b r, ReadsModRM bs (k b r)) :
    ReadsModRM bs (withByte l k) := by
  cases l with
  | nil => exact .truncated
  | cons b r => exact h b r

theorem word {k : Word → List Byte → DecodeResult} (h : ∀ v r, ReadsModRM bs (k v r)) :
    ReadsModRM bs (withWord l k) := by
  match l with
  | [] | [_] => exact .truncated
  | _ :: _ :: r => exact h _ r

theorem disp {mod : BitVec 2} {rb : BitVec 3} {k : RM → List Byte → DecodeResult}
    (h : ∀ rm r, ReadsModRM bs (k rm r)) : ReadsModRM bs (withDisp mod rb l k) := by
  unfold withDisp
  split
  · split
    · exact .word fun _ => h _
    · exact h _ l
  · exact .byte fun _ => h _
  · exact .word fun _ => h _
  · exact h _ l

theorem modRM {k : ModRM → List Byte → DecodeResult} (h : ∀ x r, bs.head? = some x.byte → ReadsModRM bs (k x r)) :
    ReadsModRM bs (withModRM op bs k) := by
  cases bs with
  | nil => exact .truncated
  | cons m l =>
    rw [withModRM]
    split
    · exact .refused op rfl
    · exact .disp fun rm r => h ⟨m, rm⟩ r rfl

theorem group2 (hx : bs.head? = some x.byte) : ReadsModRM bs (group2 op x l) := by
  unfold Sys2Proof.group2
  cases x.reg with
  | r6 => exact .refused op hx
  | _ => exact .instr _

theorem group3 (hx : bs.head? = some x.byte) : ReadsModRM bs (group3 op x l) := by
  unfold Sys2Proof.group3
  cases x.reg with
  | r0 =>
    cases widthOf op with
    | byte => exact .byte fun _ _ => .instr _
    | word => exact .word fun _ _ => .instr _
  | r1 => exact .refused op hx
  | _ => exact .instr _

theorem group4 (hx : bs.head? = some x.byte) : ReadsModRM bs (group4 op x l) := by
  unfold Sys2Proof.group4
  cases x.reg with
  | r0 | r1 => exact .instr _
  | _ => exact .refused op hx

theorem group5 (hx : bs.head? = some x.byte) : ReadsModRM bs (group5 op x l) := by
  unfold Sys2Proof.group5
  cases x.reg with
  | r7 => exact .refused op hx
  | _ => exact .instr _

end ReadsModRM

/-- The rows for which R127 lists a combination read the ModRM byte first. -/
theorem decodeBody_readsModRM {op m : Byte} (bs : List Byte) (h : Unresolvable op m) :
    ReadsModRM bs (decodeBody op bs) := by
  have hop := opcode_of_modRMIllegal ((modRMIllegal_iff op m).2 h)
  unfold decodeBody
  fin_cases hop <;> refine .modRM fun _ _ hx => ?_
  -- D0 to D3, F6 and F7, FE, FF; then 8F, C6 and C7, and the five rows without an immediate.
  iterate 4 exact .group2 hx
  iterate 2 exact .group3 hx
  · exact .group4 hx
  · exact .group5 hx
  · exact .instr _
  · exact .byte fun _ _ => .instr _
  · exact .word fun _ _ => .instr _
  iterate 5 exact .instr _

/-- A refusal names the opcode and the byte behind it (R504). -/
theorem decodeBody_unresolvable_bytes {op o m : Byte} {bs : List Byte} (hp : prefixOf op = none)
    (h : decodeBody op bs = .error (.unresolvableModRM o m)) : o = op ∧ bs.head? = some m := by
  have hreads := decodeBody_reads op bs hp
  rw [h] at hreads
  cases hreads with
  | unresolvable listed =>
    have hrow := decodeBody_readsModRM bs listed
    rw [h] at hrow
    cases hrow with
    | refused _ first => exact ⟨rfl, first⟩

theorem decodeBody_unknown_opcode {op o : Byte} {bs : List Byte} (hp : prefixOf op = none)
    (h : decodeBody op bs = .error (.unknownOpcode o)) : o = op := by
  have hreads := decodeBody_reads op bs hp
  rw [h] at hreads
  cases hreads
  rfl

theorem decode_prefixes_eq_error_iff {ps : List Prefix} {bs : List Byte} {e : DecodeError} :
    decode (ps.map Prefix.byte ++ bs) = .error e ↔ decode bs = .error e := by
  rw [decode_prefixes]
  cases decode bs with
  | ok x => exact iff_of_false nofun nofun
  | error e' => exact Iff.rfl

/-! ### The cause of an instruction's own fault (R501) -/

theorem unsignedDivide_error_kind {n : Nat} {num : BitVec (n + n)} {src : BitVec n} {cause : FaultCause}
    (h : unsignedDivide num src = .error cause) : cause.kind = .executionFault := by
  unfold unsignedDivide at h
  split at h
  · cases h; rfl
  · split at h <;> cases h
    rfl

theorem signedDivide_error_kind {n : Nat} {num : BitVec (n + n)} {src : BitVec n} {cause : FaultCause}
    (h : signedDivide num src = .error cause) : cause.kind = .executionFault := by
  unfold signedDivide at h
  split at h
  · cases h; rfl
  · dsimp only at h
    split at h <;> cases h
    rfl

/-- From a Running state a division faults with the cause its arithmetic finds. -/
theorem State.finishDivide_eq_takeFault {s : State} {w : Width} {rm : RM} {c : Ctx}
    {res : Except FaultCause (BitVec w.bits × BitVec w.bits)} {cause : FaultCause} {op : Byte} {m : Option Byte}
    (hr : s.run = .running) (h : s.finishDivide w rm c res = s.takeFault cause op m) : res = .error cause := by
  cases res with
  | ok qr =>
    have hrun := congrArg State.run h
    simp [State.finishDivide, hr] at hrun
  | error e =>
    have hfault := congrArg State.fault h
    cases hfault
    rfl

theorem Divides.fault_kind {c : Ctx} {i : Instr} {s : State} {cause : FaultCause} {op : Byte} {m : Option Byte}
    (hi : Divides i) (hr : s.run = .running) (h : execUnder c i s = .next (s.takeFault cause op m)) :
    cause.kind = .executionFault := by
  cases hi with
  | div w rm => exact unsignedDivide_error_kind (State.finishDivide_eq_takeFault hr (Host.Outcome.next.inj h))
  | idiv w rm => exact signedDivide_error_kind (State.finishDivide_eq_takeFault hr (Host.Outcome.next.inj h))
  | aam imm =>
    rw [execUnder_aam, execAam] at h
    split at h
    · cases congrArg State.fault (Host.Outcome.next.inj h)
      rfl
    · have hrun := congrArg State.run (Host.Outcome.next.inj h)
      simp [hr] at hrun

/-- An instruction of the decoder that faults takes an ExecutionFault other than PreconditionViolation, with its opcode
byte (R501, R504, R509). -/
theorem exec_fault {i : Instr} {s t : State} (h : exec i s = .next t) (hok : i.operandsOk = true)
    (hr : s.run = .running) (hf : t.run = .faulted) :
    ∃ cause op, t = s.takeFault cause op none ∧ cause.kind = .executionFault ∧ cause ≠ .preconditionViolation ∧
      (encode i.body).head? = some op := by
  have hends := ends_of_exec h
  rw [exec_body] at h
  cases hends with
  | goes frame | jumps frame => cases (frame.run.trans hr).symm.trans hf
  | halts => cases hf
  | dividesBadly divides opcode cause_ne => exact ⟨_, _, rfl, divides.fault_kind hr h, cause_ne, opcode⟩
  | malformed malformed => cases (operandsOk_body i ▸ hok).symm.trans malformed

theorem prefixOf_opcode {i : Instr} {op : Byte} (hok : i.operandsOk = true) (h : (encode i.body).head? = some op) :
    prefixOf op = none := by
  rw [operandsOk_body] at hok
  obtain ⟨o, bs, hcons, hp, -⟩ := decodes_of_operandsOk i.body (body_prefixes i) hok []
  rw [List.append_nil] at hcons
  rw [hcons] at h
  exact Option.some.inj h ▸ hp

/-! ### The two sources of a fault -/

/-- `t` is `s` with a fault that names the bytes at CS:IP: the opcode behind the prefixes and, for a refused
combination, the ModRM byte (R503, R504). -/
def FaultsAt (s t : State) : Prop :=
  ∃ (ps : List Prefix) (cause : FaultCause) (op : Byte) (m : Option Byte),
    t = faulted s cause op m ∧ cause ≠ .preconditionViolation ∧ PrefixesAt s ps ∧
    op = s.mem.byteAt (phys s.cs s.ip + BitVec.ofNat 20 ps.length) ∧ prefixOf op = none ∧
    m = if cause = .unresolvableModRM then
        some (s.mem.byteAt (phys s.cs s.ip + BitVec.ofNat 20 (ps.length + 1))) else none

/-- A decoded instruction that faults. -/
theorem faultsAt_of_exec {s t : State} {i : Instr} {rest : List Byte} (hd : s.fetchInstr = .ok (i, rest))
    (h : exec i s = .next t) (hr : s.run = .running) (hf : t.run = .faulted) : FaultsAt s t := by
  obtain ⟨hbytes, hok⟩ := encode_of_decode hd
  obtain ⟨cause, op, rfl, hkind, hcause, hop⟩ := exec_fault h hok hr hf
  have hmem := s.mem.fetch_holds memSize (phys s.cs s.ip)
  rw [hbytes, encode_eq_prefixes_append, List.append_assoc] at hmem
  have hne : cause ≠ .unresolvableModRM := by rintro rfl; cases hkind
  have hfirst : (encode i.body ++ rest)[0]? = some op := by
    rw [← List.head?_eq_getElem?, List.head?_append, hop]
    rfl
  exact ⟨i.prefixes, cause, op, none, rfl, hcause, hmem.prefixesAt, hmem.byte_behind (k := 0) hfirst,
    prefixOf_opcode hok hop, (if_neg hne).symm⟩

/-- A fetch that decodes to no instruction. -/
theorem faultsAt_of_decodeFailure {s t : State} {e : DecodeError} (hd : s.fetchInstr = .error e)
    (h : decodeFailure e s = .next t) : FaultsAt s t := by
  have hmem := s.mem.fetch_holds memSize (phys s.cs s.ip)
  rw [State.fetchInstr] at hd
  obtain ⟨ps, hbytes | ⟨op, l, hp, hbytes⟩⟩ := exists_prefixes (s.mem.fetch memSize (phys s.cs s.ip)) <;>
    rw [hbytes, decode_prefixes_eq_error_iff] at hd
  · cases hd
    cases h
  · rw [hbytes] at hmem
    rw [decode_opcode hp] at hd
    have hop : op = s.mem.byteAt (phys s.cs s.ip + BitVec.ofNat 20 ps.length) := hmem.byte_behind (k := 0) rfl
    cases e with
    | truncated => cases h
    | unknownOpcode o =>
      obtain rfl := decodeBody_unknown_opcode hp hd
      cases h
      exact ⟨ps, _, _, _, rfl, nofun, hmem.prefixesAt, hop, hp, rfl⟩
    | unresolvableModRM o m =>
      obtain ⟨rfl, hhead⟩ := decodeBody_unresolvable_bytes hp hd
      have hm : m = s.mem.byteAt (phys s.cs s.ip + BitVec.ofNat 20 (ps.length + 1)) :=
        hmem.byte_behind (k := 1) (by rw [List.getElem?_cons_succ, ← List.head?_eq_getElem?, hhead])
      cases h
      exact ⟨ps, _, _, _, rfl, nofun, hmem.prefixesAt, hop, hp, congrArg some hm⟩

end Sys2Proof.Machine

open Sys2Proof Sys2Proof.Machine Sys2Proof.Claims

/-- Settles O21: the fault of a decoded instruction (`faultsAt_of_exec`) or of the decoder
(`faultsAt_of_decodeFailure`). -/
theorem faultsArePrecise : Obligations.FaultsArePrecise := by
  intro s t hstep hr hf
  obtain ⟨hstopped, -⟩ | ⟨-, i, rest, hd, he⟩ | ⟨-, e, hd, he⟩ := step_cases s
  · exact absurd hr hstopped
  · exact faultsAt_of_exec hd (he ▸ hstep) hr hf
  · exact faultsAt_of_decodeFailure hd (he ▸ hstep)

end

section
namespace Sys2Proof.Machine

open Sys2Proof

/-! ## The bytes of a load (R561) -/

/-- No step of less than 2^20 along physical memory comes back to where it began. -/
theorem paddr_ne_add {k : Nat} (a : PAddr) (hpos : 0 < k) (hlt : k < 0x100000) : a ≠ a + BitVec.ofNat 20 k := by
  refine left_ne_add.2 fun hzero => ?_
  have htoNat : k % 0x100000 = 0 := congrArg BitVec.toNat hzero
  omega

/-- A load leaves every address outside its range. -/
theorem Memory.byteAt_load_other {x : PAddr} {bs : List Byte} (m : Memory) (a : PAddr)
    (h : ∀ k, k < bs.length → x ≠ a + BitVec.ofNat 20 k) : (m.load a bs).byteAt x = m.byteAt x := by
  induction bs generalizing m a with
  | nil => rfl
  | cons b bs ih =>
    have hfirst : x ≠ a := by simpa using h 0 (Nat.succ_pos _)
    have hrest : ∀ k, k < bs.length → x ≠ a + 1 + BitVec.ofNat 20 k := fun k hk =>
      paddr_add_succ a k ▸ h (k + 1) (Nat.succ_lt_succ hk)
    rw [Memory.load, ih _ _ hrest, Memory.byteAt_setByte, if_neg hfirst]

/-- A sequence no longer than memory lies at its start after the load: its later bytes do not reach its first one. -/
theorem Memory.load_holds {bs : List Byte} (m : Memory) (a : PAddr) (hlen : bs.length ≤ 0x100000) :
    (m.load a bs).Holds a bs := by
  induction bs generalizing m a with
  | nil => exact fun k b hk => nomatch hk
  | cons b bs ih =>
    rw [List.length_cons] at hlen
    intro k c hk
    cases k with
    | zero =>
      obtain rfl : b = c := by simpa using hk
      have hrest : ∀ k, k < bs.length → a ≠ a + 1 + BitVec.ofNat 20 k := fun k hlt =>
        paddr_add_succ a k ▸ paddr_ne_add a k.succ_pos (by omega)
      rw [paddr_add_zero, Memory.load, Memory.byteAt_load_other _ _ hrest, Memory.byteAt_setByte_same]
    | succ k => exact paddr_add_succ a k ▸ ih (m.setByte a b) (a + 1) (by omega) k c hk

end Sys2Proof.Machine

open Sys2Proof Sys2Proof.Machine Sys2Proof.Claims

/-- Settles O12: the bytes by `Memory.load_holds`, the other addresses by `Memory.byteAt_load_other`. -/
theorem loadWritesTheBytes : Obligations.LoadWritesTheBytes := fun s start _ hlen =>
  ⟨s.mem.load_holds start hlen, fun _ => s.mem.byteAt_load_other start, rfl⟩

end

section
namespace Sys2Proof.Machine

open Sys2Proof

/-! ## The run of the host (R557 to R559) -/

section Boundary

variable {s : State} (stops : List Bool)

theorem run_of_stop (s : State) : run (true :: stops) s = .stopped s := rfl

theorem run_of_halted (h : s.run = .halted) : run (false :: stops) s = .halted s := by
  simp [run, h]

theorem run_of_faulted (h : s.run = .faulted) : run (false :: stops) s = .faulted s := by
  simp [run, h]

theorem run_of_next {t : State} (h : s.run = .running) (hstep : step s = .next t) :
    run (false :: stops) s = run stops t := by
  simp [run, h, hstep]

theorem run_of_fault {r : Fault} (h : s.run = .running) (hstep : step s = .fault r) :
    run (false :: stops) s = .stuck r := by
  simp [run, h, hstep]

end Boundary

/-- What the end of a run says of its state: Halted and Faulted name the run state, and there is no refusal. -/
def RunEnd.Accurate : RunEnd → Prop
  | .halted t => t.run = .halted
  | .faulted t => t.run = .faulted
  | .stopped _ => True
  | .notEnded _ => True
  | .stuck _ => True
  | .refused _ => False

/-- Runs end accurately when no step is refused. -/
theorem run_accurate (hstep : ∀ s r, step s ≠ .refused r) (stops : List Bool) (s : State) :
    (run stops s).Accurate := by
  induction stops generalizing s with
  | nil => exact trivial
  | cons stop stops ih =>
    cases stop with
    | true => exact trivial
    | false =>
      cases hr : s.run with
      | halted => exact (run_of_halted stops hr).symm ▸ hr
      | faulted => exact (run_of_faulted stops hr).symm ▸ hr
      | running =>
        cases hs : step s with
        | next t => exact (run_of_next stops hr hs).symm ▸ ih t
        | fault r => exact (run_of_fault stops hr hs).symm ▸ trivial
        | refused r => exact absurd hs (hstep s r)

end Sys2Proof.Machine

open Sys2Proof Sys2Proof.Machine Sys2Proof.Claims

/-- Settles O13: the step boundary by the equations of `run`, the ends by `run_accurate`, since no step is refused
(`stepHangsOnlyOnPrefixMemory`). -/
theorem runEndsAtTerminalStates : Obligations.RunEndsAtTerminalStates := by
  obtain ⟨-, hstep⟩ := stepHangsOnlyOnPrefixMemory
  exact ⟨fun s stops => run_of_stop stops s, fun _ stops => run_of_halted stops, fun _ stops => run_of_faulted stops,
    fun _ _ stops => run_of_next stops,
    fun s _ stops h => (h ▸ run_accurate hstep stops s : (RunEnd.halted _).Accurate),
    fun s _ stops h => (h ▸ run_accurate hstep stops s : (RunEnd.faulted _).Accurate),
    fun s stops _ h => (h ▸ run_accurate hstep stops s : (RunEnd.refused _).Accurate)⟩

end
